-- ==== Sys2Proof/Word.lean ====
section
/-! DEFINITION. Sys2Proof/Word.lean: the widths of the machine (00_scope.md R6, R9). All values are unsigned and bit 0
is the least significant bit. -/

namespace Sys2Proof

/-- 4 bits: ACC, R0..R4, a cell of data RAM, a port (00_scope.md R6). -/
abbrev Nibble := BitVec 4

/-- 8 bits: a byte of program ROM, the timer counter (00_scope.md R6). -/
abbrev Byte := BitVec 8

/-- 12 bits: a value of PC or S (10_state.md R24, R27). -/
abbrev PcWord := BitVec 12

/-- 13 bits: an address of program ROM, bit 12 the bank bit (20_memory.md R51). -/
abbrev RomAddr := BitVec 13

/-- 8 bits: an address of data RAM (20_memory.md R50). -/
abbrev RamAddr := BitVec 8

end Sys2Proof
end

