-- ==== Sys2Proof/Config.lean ====
section
/-! DEFINITION. Sys2Proof/Config.lean: what is fixed for one chip (the mask options of 00_scope.md R7 and the spec's
own parameters of R8), and the free values. The configuration in use is the field `cfg` of State: no step changes it,
so a statement about every state holds for every value of every parameter. -/

namespace Sys2Proof

/-- PAIR_IMM_ORDER (00_scope.md R8, decision D1): which byte of MOV R1R0,XXH and MOV R3R2,XXH holds the low nibble. -/
inductive PairImmOrder where
  /-- the first byte holds data bits 3..0 (the spec's default) -/
  | lowFirst
  /-- the first byte holds data bits 7..4 -/
  | highFirst
deriving DecidableEq, Repr

/-- IRQ_PRIORITY (00_scope.md R8, decision D13): which of two pending interrupts is taken. -/
inductive IrqPriority where
  | timerFirst
  | externalFirst
  /-- not determined: a free value decides (the spec's default) -/
  | either
deriving DecidableEq, Repr

/-- TIMER_N (00_scope.md R7): the stage of the divider that clocks the timer, 0..13 without 6. The value 6 is reserved
for internal use (93_implementation_defined.md U11) and has no constructor. -/
inductive TimerStage where
  | n0 | n1 | n2 | n3 | n4 | n5 | n7 | n8 | n9 | n10 | n11 | n12 | n13
deriving DecidableEq, Repr

/-- PA_TYPE of one pin (00_scope.md R7). -/
inductive PadDrive where
  | cmos
  | openDrain
deriving DecidableEq, Repr

/-- The mask options (00_scope.md R7) and the spec's own parameters (R8). Not here: ROM_IMAGE, which is the field `rom`
of State (notes/assumptions/3.md), SOUND_LIBRARY, whose contents no source gives (00_scope.md R5 (c)), and the
timing-only parameters of decision D29, which a functional model does not take. -/
structure Config where
  /-- WAKE_PS: bit i is 1 when pin PSi ends HALT mode on a falling edge -/
  wakePs : Nibble
  /-- WAKE_PP: the same for pin PPi -/
  wakePp : Nibble
  /-- PULL_PS: bit i is 1 when pin PSi has a pull-high resistor -/
  pullPs : Nibble
  /-- PULL_PP: the same for pin PPi -/
  pullPp : Nibble
  /-- PA_TYPE of pin PA0 -/
  pa0Type : PadDrive
  /-- PA_TYPE of pin PA1 -/
  pa1Type : PadDrive
  /-- PA_TYPE of pin PA2 -/
  pa2Type : PadDrive
  /-- TIMER_N -/
  timerN : TimerStage
  /-- SOUND_M, 0..5 -/
  soundM : Fin 6
  /-- how many hertz F_SYS, set by an external resistor, lies above 32 kHz: 0 for 32 kHz to 968000 for 1000 kHz. A
  frequency outside the range has no value here (93_implementation_defined.md U14) -/
  fSysAbove32kHz : Fin 968001
  /-- F_LCD in hertz, fixed by Holtek -/
  fLcdHz : Nat
  /-- PAIR_IMM_ORDER -/
  pairImmOrder : PairImmOrder
  /-- STRICT_SECOND_BYTE -/
  strictSecondByte : Bool
  /-- IRQ_PRIORITY -/
  irqPriority : IrqPriority
  /-- EXTL_HELD_UNDER_DI -/
  extlHeldUnderDi : Bool
  /-- LCD_SEG0_AT_FE -/
  lcdSeg0AtFe : Bool
deriving DecidableEq, Repr

/-- F_SYS in hertz, 32000 to 1000000 (00_scope.md R7). -/
def Config.fSysHz (c : Config) : Nat := 32000 + c.fSysAbove32kHz.val

/-- The configuration of State.reset. The parameters of R8 stand at the spec's defaults; PAIR_IMM_ORDER's default is
general knowledge of the spec's author (PRESUMED, notes/assumptions/5.md). The mask options of R7 have no default in the
spec: the values here are a DESIGN CHOICE (notes/assumptions/4.md). -/
def Config.default : Config where
  wakePs := 0xF#4
  wakePp := 0xF#4
  pullPs := 0xF#4
  pullPp := 0xF#4
  pa0Type := .cmos
  pa1Type := .cmos
  pa2Type := .cmos
  timerN := .n0
  soundM := 3
  fSysAbove32kHz := 968000
  fLcdHz := 512
  pairImmOrder := .lowFirst
  strictSecondByte := true
  irqPriority := .either
  extlHeldUnderDi := true
  lcdSeg0AtFe := true

/-- FREE VALUE (notes/assumptions/2.md): what data RAM cell `a` holds after reset number `r` until an instruction writes
it. The spec leaves it open (10_state.md R42; R43 admits a value fixed at reset). -/
opaque Config.ramAtReset (r a : Nat) : Nibble

/-- FREE VALUE (notes/assumptions/7.md): under IRQ_PRIORITY = either, whether draw number `k` takes the timer interrupt
before the external one (60_exceptions.md R228). -/
opaque Config.irqPick (k : Nat) : Bool

end Sys2Proof
end

