-- ==== Sys2Proof/Syntax.lean ====
section
/-! DEFINITION. Sys2Proof/Syntax.lean: the instructions, one constructor per row of spec/opcode_table.json
(30_encoding.md R86, R88). `At` before a register pair stands for the brackets of the spec's operand spelling: `AtR1R0`
is the data RAM cell [R1R0]. The last two constructors are the table's rows for the two first bytes the source assigns to
no instruction (R89). -/

namespace Sys2Proof

/-- One instruction with its operands (30_encoding.md R81 to R86). An operand's type is the width of its field, so every
operand of every term is one the encoding admits. The two nibbles of `movR1R0Imm` and `movR3R2Imm` are the ones in the
first and the second byte: PAIR_IMM_ORDER, which joins them (R83), is applied by the meaning (notes/assumptions/5.md). -/
inductive Instr where
  -- Arithmetic (40_arithmetic.md)
  /-- ADD A,[R1R0]: 00001001 (R101) -/
  | addAAtR1R0
  /-- ADC A,[R1R0]: 00001000 (R102) -/
  | adcAAtR1R0
  /-- SUB A,[R1R0]: 00001011 (R103) -/
  | subAAtR1R0
  /-- SBC A,[R1R0]: 00001010 (R104) -/
  | sbcAAtR1R0
  /-- ADD A,XH: 01000000 0000dddd (R105) -/
  | addAImm (imm : Nibble)
  /-- SUB A,XH: 01000001 0000dddd (R106) -/
  | subAImm (imm : Nibble)
  /-- DAA: 00110110 (R107) -/
  | daa
  -- Logic (41_logic.md)
  /-- AND A,[R1R0]: 00011010 (R111) -/
  | andAAtR1R0
  /-- OR A,[R1R0]: 00011100 (R112) -/
  | orAAtR1R0
  /-- XOR A,[R1R0]: 00011011 (R113) -/
  | xorAAtR1R0
  /-- AND [R1R0],A: 00011101 (R114) -/
  | andAtR1R0A
  /-- OR [R1R0],A: 00011111 (R115) -/
  | orAtR1R0A
  /-- XOR [R1R0],A: 00011110 (R116) -/
  | xorAtR1R0A
  /-- AND A,XH: 01000010 0000dddd (R117) -/
  | andAImm (imm : Nibble)
  /-- OR A,XH: 01000100 0000dddd (R118) -/
  | orAImm (imm : Nibble)
  /-- XOR A,XH: 01000011 0000dddd (R119) -/
  | xorAImm (imm : Nibble)
  -- Increment and decrement (42_incdec.md)
  /-- INC A: 00110001 (R121) -/
  | incA
  /-- INC R0: 0001nnn0 (R122) -/
  | incR0
  /-- INC R1: 0001nnn0 (R122) -/
  | incR1
  /-- INC R2: 0001nnn0 (R122) -/
  | incR2
  /-- INC R3: 0001nnn0 (R122) -/
  | incR3
  /-- INC R4: 0001nnn0 (R122) -/
  | incR4
  /-- INC [R1R0]: 00001100 (R123) -/
  | incAtR1R0
  /-- INC [R3R2]: 00001110 (R124) -/
  | incAtR3R2
  /-- DEC A: 00111111 (R125) -/
  | decA
  /-- DEC R0: 0001nnn1 (R126) -/
  | decR0
  /-- DEC R1: 0001nnn1 (R126) -/
  | decR1
  /-- DEC R2: 0001nnn1 (R126) -/
  | decR2
  /-- DEC R3: 0001nnn1 (R126) -/
  | decR3
  /-- DEC R4: 0001nnn1 (R126) -/
  | decR4
  /-- DEC [R1R0]: 00001101 (R127) -/
  | decAtR1R0
  /-- DEC [R3R2]: 00001111 (R128) -/
  | decAtR3R2
  -- Data move (43_datamove.md)
  /-- MOV A,R0: 0010nnn1 (R131) -/
  | movAR0
  /-- MOV A,R1: 0010nnn1 (R131) -/
  | movAR1
  /-- MOV A,R2: 0010nnn1 (R131) -/
  | movAR2
  /-- MOV A,R3: 0010nnn1 (R131) -/
  | movAR3
  /-- MOV A,R4: 0010nnn1 (R131) -/
  | movAR4
  /-- MOV R0,A: 0010nnn0 (R132) -/
  | movR0A
  /-- MOV R1,A: 0010nnn0 (R132) -/
  | movR1A
  /-- MOV R2,A: 0010nnn0 (R132) -/
  | movR2A
  /-- MOV R3,A: 0010nnn0 (R132) -/
  | movR3A
  /-- MOV R4,A: 0010nnn0 (R132) -/
  | movR4A
  /-- MOV A,[R1R0]: 00000100 (R133) -/
  | movAAtR1R0
  /-- MOV A,[R3R2]: 00000110 (R134) -/
  | movAAtR3R2
  /-- MOV [R1R0],A: 00000101 (R135) -/
  | movAtR1R0A
  /-- MOV [R3R2],A: 00000111 (R136) -/
  | movAtR3R2A
  /-- MOV A,XH: 0111dddd (R137) -/
  | movAImm (imm : Nibble)
  /-- MOV R1R0,XXH: 0101dddd 0000dddd (R138) -/
  | movR1R0Imm (first : Nibble) (second : Nibble)
  /-- MOV R3R2,XXH: 0110dddd 0000dddd (R139) -/
  | movR3R2Imm (first : Nibble) (second : Nibble)
  /-- MOV R4,XH: 01000110 0000dddd (R140) -/
  | movR4Imm (imm : Nibble)
  -- Rotate; input and output (44_rotate_io.md)
  /-- RL A: 00000001 (R146) -/
  | rlA
  /-- RLC A: 00000011 (R147) -/
  | rlcA
  /-- RR A: 00000000 (R148) -/
  | rrA
  /-- RRC A: 00000010 (R149) -/
  | rrcA
  /-- IN A,PS: 00110011 (R150) -/
  | inAPs
  /-- IN A,PP: 00110100 (R150) -/
  | inAPp
  /-- OUT PA,A: 00110000 (R151) -/
  | outPaA
  -- Branch (45_branch.md)
  /-- JMP address: 1110aaaa aaaaaaaa (R156) -/
  | jmp (addr : PcWord)
  /-- JC address: 11000aaa aaaaaaaa (R157) -/
  | jc (addr : BitVec 11)
  /-- JNC address: 11001aaa aaaaaaaa (R158) -/
  | jnc (addr : BitVec 11)
  /-- JTMR address: 11010aaa aaaaaaaa (R159) -/
  | jtmr (addr : BitVec 11)
  /-- JAn address: 100nnaaa aaaaaaaa (R160) -/
  | jan (n : BitVec 2) (addr : BitVec 11)
  /-- JZ A,address: 10110aaa aaaaaaaa (R161) -/
  | jzA (addr : BitVec 11)
  /-- JNZ A,address: 10111aaa aaaaaaaa (R162) -/
  | jnzA (addr : BitVec 11)
  /-- JNZ R0,address: 10100aaa aaaaaaaa (R163) -/
  | jnzR0 (addr : BitVec 11)
  /-- JNZ R1,address: 10101aaa aaaaaaaa (R163) -/
  | jnzR1 (addr : BitVec 11)
  /-- JNZ R4,address: 11011aaa aaaaaaaa (R163) -/
  | jnzR4 (addr : BitVec 11)
  -- Subroutine; flag (46_subroutine_flag.md)
  /-- CALL address: 1111aaaa aaaaaaaa (R171) -/
  | call (addr : PcWord)
  /-- RET: 00101110 (R172) -/
  | ret
  /-- RETI: 00101111 (R173) -/
  | reti
  /-- CLC: 00101010 (R174) -/
  | clc
  /-- STC: 00101011 (R175) -/
  | stc
  /-- EI: 00101100 (R176) -/
  | ei
  /-- DI: 00101101 (R177) -/
  | di
  /-- NOP: 00111110 (R178) -/
  | nop
  -- Timer (47_timer.md)
  /-- TIMER XXH: 01000111 dddddddd (R186) -/
  | timerImm (imm : Byte)
  /-- TIMER ON: 00111000 (R187) -/
  | timerOn
  /-- TIMER OFF: 00111001 (R188) -/
  | timerOff
  /-- MOV A,TMRL: 00111010 (R189) -/
  | movATmrl
  /-- MOV A,TMRH: 00111011 (R190) -/
  | movATmrh
  /-- MOV TMRL,A: 00111100 (R191) -/
  | movTmrlA
  /-- MOV TMRH,A: 00111101 (R192) -/
  | movTmrhA
  -- Table read (48_tableread.md)
  /-- READ R4A: 01001100 (R196) -/
  | readR4A
  /-- READ MR0A: 01001110 (R197) -/
  | readMr0A
  /-- READF R4A: 01001101 (R198) -/
  | readfR4A
  /-- READF MR0A: 01001111 (R199) -/
  | readfMr0A
  -- Sound control; HALT (49_sound_halt.md)
  /-- SOUND n: 01000101 0000nnnn (R206) -/
  | soundN (n : Nibble)
  /-- SOUND A: 01001011 (R207) -/
  | soundA
  /-- SOUND ONE: 01001000 (R208) -/
  | soundOne
  /-- SOUND LOOP: 01001001 (R209) -/
  | soundLoop
  /-- SOUND OFF: 01001010 (R210) -/
  | soundOff
  /-- HALT: 00110111 00111110 (R211) -/
  | halt
  -- First bytes that are no instruction (30_encoding.md)
  /-- (undefined 32H): 00110010 (R89) -/
  | undefined32H
  /-- (undefined 35H): 00110101 (R89) -/
  | undefined35H
deriving DecidableEq, Repr

end Sys2Proof
end

