-- ==== Sys2Proof/Machine/State.lean ====
section
/-! DEFINITION. Sys2Proof/Machine/State.lean: the state (10_state.md R20 to R44), what can stop a step, and the state
after reset. -/

namespace Sys2Proof.Machine

/-- CTX, what occupies the one-level stack register (10_state.md R34). -/
inductive Context where
  /-- the main program: an interrupt may be taken -/
  | main
  /-- between a CALL and the next RET or RETI -/
  | sub
  /-- between an interrupt entry and the next RET or RETI -/
  | isr
deriving DecidableEq, Repr

/-- SND_MODE (10_state.md R36). -/
inductive SoundMode where
  | one
  | loop
deriving DecidableEq, Repr

/-- What the environment does to the four pins of an input port (10_state.md R40). Where bit i of `driven` is 1, bit i of
`level` is the level put on the pin. Where it is 0 the pin is undriven: it is high if it has a pull-high resistor, and
otherwise bit i of `level` is the unspecified level the environment happens to give it (44_rotate_io.md R150). -/
structure InputPort where
  level : Nibble
  driven : Nibble
deriving DecidableEq, Repr

/-- A turn of one agent (60_exceptions.md R251; notes/assumptions/8.md). -/
inductive Turn where
  /-- the core: an interrupt entry or one instruction -/
  | core
  /-- the timer: one count (R240) -/
  | timerTick
  /-- the sound generator: the note being played ends (R242) -/
  | soundNote
  /-- the sound generator puts levels on the pads BZ and its complement -/
  | soundPads (bz bzBar : Bool)
  /-- the environment sets the pins of PS and PP (R246) -/
  | pins (ps pp : InputPort)
  /-- pad RES goes low: the initial reset (70_reset_and_hazards.md R260) -/
  | resLow
  /-- pad RES returns high -/
  | resHigh
deriving DecidableEq, Repr

/-- The machine. Every item of 10_state.md R42 is a field; so are the ROM image and the configuration, which no step
changes, and the environment's pins. The last three fields are the model's own. -/
structure State where
  /-- ACC (R20) -/
  acc : Nibble
  /-- R0 (R21) -/
  r0 : Nibble
  /-- R1 -/
  r1 : Nibble
  /-- R2 -/
  r2 : Nibble
  /-- R3 -/
  r3 : Nibble
  /-- R4 -/
  r4 : Nibble
  /-- C, the carry flag (R23) -/
  c : Bool
  /-- PC, an address in the current bank (R24) -/
  pc : PcWord
  /-- PA, the port A latch; bit 3 is the bank bit (R26) -/
  pa : Nibble
  /-- S, the saved PC (R27) -/
  stackPc : PcWord
  /-- SC, the saved carry (R27) -/
  stackC : Bool
  /-- TMR, the timer counter (R29) -/
  tmr : Byte
  /-- TON, the timer runs (R30) -/
  ton : Bool
  /-- TF, the timer flag (R31) -/
  tf : Bool
  /-- IE, interrupt enable (R32) -/
  ie : Bool
  /-- EXTL, the external interrupt latch (R33) -/
  extl : Bool
  /-- CTX (R34) -/
  ctx : Context
  /-- HALTED (R35) -/
  halted : Bool
  /-- SND_CH, the selected sound (R36) -/
  sndCh : Nibble
  /-- SND_ON, a sound is playing (R36) -/
  sndOn : Bool
  /-- SND_MODE (R36) -/
  sndMode : SoundMode
  /-- the note being played, from 0 (R41 (e)) -/
  sndNote : BitVec 6
  /-- level of pad BZ, true for high (R36) -/
  bz : Bool
  /-- level of the complement of BZ (R36) -/
  bzBar : Bool
  /-- data RAM (R38): the cells written since reset, addresses strictly rising -/
  ram : List (Nat × Nibble)
  /-- program ROM (R39, ROM_IMAGE): the bytes that are not 00H, addresses strictly rising -/
  rom : List Host.Cell
  /-- port PS (R40) -/
  ps : InputPort
  /-- port PP (R40) -/
  pp : InputPort
  /-- pad RES is low (70_reset_and_hazards.md R260) -/
  resLow : Bool
  /-- mask options and parameters (R44) -/
  cfg : Config
  /-- the model's own: the next turns of the agents, first first; when the list is empty the core moves -/
  turns : List Turn
  /-- the model's own: how many free values have been drawn (notes/assumptions/7.md) -/
  draws : Nat
  /-- the model's own: how many resets there have been (notes/assumptions/2.md) -/
  resets : Nat
deriving DecidableEq, Repr

/-- Why a step has no next state. Each is an outcome of the model, not a trap of the chip (00_scope.md R13,
60_exceptions.md R220), and each is SAFE: the model stops where the spec gives no effect. -/
inductive Fault where
  /-- `fault(undefined_opcode)`: raised by the two terms for the first bytes 32H and 35H (30_encoding.md R89). Safe. -/
  | undefinedOpcode
  /-- `fault(reserved_encoding)`: raised by the fetch of a second byte outside the printed pattern while
  STRICT_SECOND_BYTE is true (30_encoding.md R82, R87). Safe. -/
  | reservedEncoding
  /-- `fault(undefined_ram)`: raised by an instruction that accesses a data RAM address in A0H..AFH (20_memory.md R55).
  Safe. -/
  | undefinedRam
  /-- `fault(call_in_isr)`: raised by CALL while CTX = ISR (46_subroutine_flag.md R171). Safe. -/
  | callInIsr
deriving DecidableEq, Repr

/-- Why a step is refused. -/
inductive Refusal where
  /-- raised only by an arm of exec whose instruction has no meaning yet; there is none. Safe. -/
  | notModelled (mnemonic : String)
deriving DecidableEq, Repr

/-- The outcome of a step of this machine. -/
abbrev Result := Host.Outcome State Fault Refusal

/-- The machine right after reset (10_state.md R42, 70_reset_and_hazards.md R261). ACC, R0..R4, C, S, SC, TMR and SND_CH
are unspecified there: their value 0 is a DESIGN CHOICE (notes/assumptions/1.md). -/
def State.reset : State where
  acc := 0x0#4
  r0 := 0x0#4
  r1 := 0x0#4
  r2 := 0x0#4
  r3 := 0x0#4
  r4 := 0x0#4
  c := false
  pc := 0x000#12
  pa := 0b1111#4
  stackPc := 0x000#12
  stackC := false
  tmr := 0x00#8
  ton := false
  tf := false
  ie := false
  extl := false
  ctx := .main
  halted := false
  sndCh := 0x0#4
  sndOn := false
  sndMode := .one
  sndNote := 0
  bz := true
  bzBar := true
  ram := []
  rom := []
  ps := { level := 0x0#4, driven := 0x0#4 }
  pp := { level := 0x0#4, driven := 0x0#4 }
  resLow := false
  cfg := Config.default
  turns := []
  draws := 0
  resets := 0

end Sys2Proof.Machine
end

