-- ==== Sys2Proof/Machine/Memory.lean ====
section
/-! DEFINITION. Sys2Proof/Machine/Memory.lean: data RAM and program ROM as lists of (address, value) pairs in one
canonical form: addresses strictly rising, and no entry equal to what an unlisted address reads as. -/

namespace Sys2Proof.Machine

/-- What the list holds at an address. -/
def cellFind {w : Nat} : List (Nat × BitVec w) → Nat → Option (BitVec w)
  | [], _ => none
  | (k, v) :: m, a => if k = a then some v else cellFind m a

/-- Put a value at an address, keeping the addresses rising. -/
def cellInsert {w : Nat} : List (Nat × BitVec w) → Nat → BitVec w → List (Nat × BitVec w)
  | [], a, v => [(a, v)]
  | (k, u) :: m, a, v =>
    if a < k then (a, v) :: (k, u) :: m
    else if a = k then (a, v) :: m
    else (k, u) :: cellInsert m a v

/-- Take the entry of an address out. -/
def cellErase {w : Nat} : List (Nat × BitVec w) → Nat → List (Nat × BitVec w)
  | [], _ => []
  | (k, u) :: m, a => if k = a then cellErase m a else (k, u) :: cellErase m a

/-- Every address of the list is above `n`, and they rise strictly. -/
def cellsAbove {w : Nat} (n : Nat) : List (Nat × BitVec w) → Bool
  | [] => true
  | (k, _) :: m => decide (n < k) && cellsAbove k m

/-- The addresses rise strictly. -/
def cellsRising {w : Nat} : List (Nat × BitVec w) → Bool
  | [] => true
  | (k, _) :: m => cellsAbove k m

/-- The data RAM cell exists: 00H..9FH or B0H..FFH (20_memory.md R54, R55). -/
def ramExists (a : RamAddr) : Bool := a ≤ 0x9F#8 || 0xB0#8 ≤ a

/-- What a ROM byte that is not listed reads as: 00H (notes/assumptions/3.md). -/
def romUnlisted : Byte := 0x00#8

/-- The byte of ROM at a 13-bit address (20_memory.md R51). Every address has one. -/
def romByte (rom : List Host.Cell) (a : RomAddr) : Byte := (cellFind rom a.toNat).getD romUnlisted

/-- ROM with one byte of the image replaced. No instruction does this (20_memory.md R67): it is for
State.withFetchWord. -/
def romPut (rom : List Host.Cell) (a : RomAddr) (b : Byte) : List Host.Cell :=
  if b = romUnlisted then cellErase rom a.toNat else cellInsert rom a.toNat b

/-- The canonical form of data RAM: rising addresses of cells that exist. A cell that is not listed has not been written
since reset and reads as a free value (notes/assumptions/2.md), which no entry can be known to equal. -/
def ramWf (ram : List (Nat × Nibble)) : Bool :=
  cellsRising ram && ram.all fun e => decide (e.1 < 256) && ramExists (BitVec.ofNat 8 e.1)

/-- The canonical form of ROM: rising 13-bit addresses, and no entry 00H. -/
def romWf (rom : List Host.Cell) : Bool :=
  cellsRising rom && rom.all fun e => decide (e.1 < 8192) && e.2 != romUnlisted

/-- Both memories of the state are in canonical form. -/
def Memory.wf (s : State) : Bool := ramWf s.ram && romWf s.rom

/-- MemRead (00_scope.md R11): the cell at an address; none in the undefined area (20_memory.md R55). A cell not written
since reset reads as a free value. -/
def readCell (s : State) (a : RamAddr) : Option Nibble :=
  if ramExists a then some ((cellFind s.ram a.toNat).getD (Config.ramAtReset s.resets a.toNat)) else none

/-- MemWrite (00_scope.md R11) of an address that exists. -/
def setCell (s : State) (a : RamAddr) (v : Nibble) : State := { s with ram := cellInsert s.ram a.toNat v }

/-- Read a cell and go on with its value, or fault in the undefined area (20_memory.md R55). -/
def withCell (s : State) (a : RamAddr) (k : Nibble → State) : Result :=
  match readCell s a with
  | some m => .next (k m)
  | none => .fault .undefinedRam

/-- Write a cell and go on, or fault in the undefined area (20_memory.md R55). -/
def storeCell (s : State) (a : RamAddr) (v : Nibble) (k : State → State) : Result :=
  if ramExists a then .next (k (setCell s a v)) else .fault .undefinedRam

/-- Read a cell, write a function of its value to it and go on: one indivisible access (20_memory.md R61). -/
def modifyCell (s : State) (a : RamAddr) (f : Nibble → Nibble) (k : State → State) : Result :=
  match readCell s a with
  | some m => .next (k (setCell s a (f m)))
  | none => .fault .undefinedRam

/-- The bank bit PA[3] (10_state.md R26). -/
def bank (s : State) : BitVec 1 := s.pa.extractLsb' 3 1

/-- RomRead in the current bank: the byte at the 13-bit address with bit 12 = PA[3] (20_memory.md R51). -/
def romRead (s : State) (p : PcWord) : Byte := romByte s.rom (bank s ++ p)

end Sys2Proof.Machine
end

