-- ==== Sys2Proof/Machine/Operands.lean ====
section
/-! DEFINITION. Sys2Proof/Machine/Operands.lean: the operand forms: working registers, register pairs, immediates,
branch targets, table addresses and the input ports. -/

namespace Sys2Proof.Machine

/-- A working register (10_state.md R21). -/
inductive Reg where
  | r0 | r1 | r2 | r3 | r4
deriving DecidableEq, Repr

/-- R[n] (10_state.md R21). -/
def getReg (s : State) : Reg → Nibble
  | .r0 => s.r0
  | .r1 => s.r1
  | .r2 => s.r2
  | .r3 => s.r3
  | .r4 => s.r4

/-- R[n] <- v (10_state.md R21). No register is hardwired. -/
def setReg (s : State) (r : Reg) (v : Nibble) : State :=
  match r with
  | .r0 => { s with r0 := v }
  | .r1 => { s with r1 := v }
  | .r2 => { s with r2 := v }
  | .r3 => { s with r3 := v }
  | .r4 => { s with r4 := v }

/-- The address of operand [R1R0]: R1 the high nibble (10_state.md R22, 43_datamove.md R141). -/
def pairR1R0 (s : State) : RamAddr := s.r1 ++ s.r0

/-- The address of operand [R3R2]: R3 the high nibble (10_state.md R22, 43_datamove.md R141). -/
def pairR3R2 (s : State) : RamAddr := s.r3 ++ s.r2

/-- imm8 of the PAIR format: the nibbles of the first and the second byte joined as PAIR_IMM_ORDER says
(30_encoding.md R83). -/
def pairImm (c : Config) (first second : Nibble) : Byte :=
  match c.pairImmOrder with
  | .lowFirst => second ++ first
  | .highFirst => first ++ second

/-- Bits 7..4 of an 8-bit value (20_memory.md R58). -/
def hiNibble (b : Byte) : Nibble := b.extractLsb' 4 4

/-- Bits 3..0 of an 8-bit value (20_memory.md R58). -/
def loNibble (b : Byte) : Nibble := b.extractLsb' 0 4

/-- npc, the program counter after the fetch of `len` bytes, modulo 4096 (00_scope.md R12, decision D3). -/
def npc (s : State) (len : Nat) : PcWord := s.pc + BitVec.ofNat 12 len

/-- The target of a conditional branch: bit 11 of npc and the 11 address bits (45_branch.md R155, decision D9). -/
def branchTarget (s : State) (addr : BitVec 11) : PcWord := (npc s 2).extractLsb' 11 1 ++ addr

/-- ACC[n] (45_branch.md R160). -/
def accBit (s : State) (n : BitVec 2) : Bool := s.acc.getLsbD n.toNat

/-- The page of a READ: bits 11..8 of npc (48_tableread.md R195, R200). -/
def currentPage (s : State) : Nibble := (npc s 1).extractLsb' 8 4

/-- The page of a READF: 1111b (48_tableread.md R195). -/
def pageF : Nibble := 0xF#4

/-- The byte a table read fetches: bank PA[3], the page, ACC as bits 7..4, the low nibble (48_tableread.md R195). -/
def tableByte (s : State) (page low : Nibble) : Byte := romRead s (page ++ s.acc ++ low)

/-- The levels on the four pins of a port with the given pull-high options (44_rotate_io.md R150). -/
def portPins (p : InputPort) (pull : Nibble) : Nibble := p.level ||| (~~~p.driven &&& pull)

/-- PortRead(PS) (00_scope.md R11): pin PSi is bit i (decision D24). -/
def readPs (s : State) : Nibble := portPins s.ps s.cfg.pullPs

/-- PortRead(PP) (00_scope.md R11): pin PPi is bit i (decision D24). -/
def readPp (s : State) : Nibble := portPins s.pp s.cfg.pullPp

end Sys2Proof.Machine
end

