-- ==== Sys2Proof/Machine/Flags.lean ====
section
/-! DEFINITION. Sys2Proof/Machine/Flags.lean: the one flag, C, and the computations that set it (10_state.md R23,
40_arithmetic.md R100, R107, 44_rotate_io.md R146 to R149). -/

namespace Sys2Proof.Machine

/-- sum5, the 5-bit exact sum of two nibbles and a carry-in (40_arithmetic.md R100). -/
def sum5 (a b : Nibble) (cin : Bool) : BitVec 5 :=
  a.zeroExtend 5 + b.zeroExtend 5 + (BitVec.ofBool cin).zeroExtend 5

/-- ACC <- sum5[3:0], C <- sum5[4] (40_arithmetic.md R100). -/
def writeSum (s : State) (x : BitVec 5) : State := { s with acc := x.extractLsb' 0 4, c := x.getLsbD 4 }

/-- The addition of a nibble to ACC with a carry-in (40_arithmetic.md R101, R102, R105). -/
def addToAcc (s : State) (m : Nibble) (cin : Bool) : State := writeSum s (sum5 s.acc m cin)

/-- The subtraction of a nibble from ACC, as the addition of 15 - m with a carry-in; C = 1 means no borrow
(40_arithmetic.md R100, R103, R104, R106, decision D4). -/
def subFromAcc (s : State) (m : Nibble) (cin : Bool) : State := writeSum s (sum5 s.acc (0xF#4 - m) cin)

/-- Decimal adjust (40_arithmetic.md R107): C is set by the adjustment; it is not the carry of ACC + 6. -/
def decimalAdjust (s : State) : State :=
  if s.c || 0x9#4 < s.acc then { s with acc := s.acc + 0x6#4, c := true } else s

/-- ACC shifted left by one with `b` in bit 0; C takes the old bit 3 (44_rotate_io.md R146, R147). -/
def rotateLeftWith (s : State) (b : Bool) : State :=
  { s with acc := s.acc.extractLsb' 0 3 ++ BitVec.ofBool b, c := s.acc.getLsbD 3 }

/-- ACC shifted right by one with `b` in bit 3; C takes the old bit 0 (44_rotate_io.md R148, R149). -/
def rotateRightWith (s : State) (b : Bool) : State :=
  { s with acc := BitVec.ofBool b ++ s.acc.extractLsb' 1 3, c := s.acc.getLsbD 0 }

end Sys2Proof.Machine
end

