-- ==== Sys2Proof/Machine/Ops.lean ====
section
/-! DEFINITION. Sys2Proof/Machine/Ops.lean: the named operations shared by the meanings and the steps: moving past an
instruction, branches, taking an interrupt, and the return from one. -/

namespace Sys2Proof.Machine

/-- PC <- npc (00_scope.md R12). -/
def advance (len : Nat) (s : State) : State := { s with pc := npc s len }

/-- A conditional branch: to its target if the condition holds, else to npc (45_branch.md R155). -/
def branchIf (cond : Bool) (addr : BitVec 11) (s : State) : State :=
  { s with pc := if cond then branchTarget s addr else npc s 2 }

/-- R[n] <- (R[n] + d) mod 16, then PC <- npc (42_incdec.md R122, R126). -/
def stepReg (s : State) (r : Reg) (d : Nibble) : State := advance 1 (setReg s r (getReg s r + d))

/-- The two interrupt sources (60_exceptions.md R221). -/
inductive IrqSource where
  /-- internal: timer overflow, pending bit TF -/
  | timer
  /-- external: a wake-up pin in HALT mode, pending bit EXTL -/
  | external
deriving DecidableEq, Repr

/-- The entry address in the current bank (60_exceptions.md R221). -/
def entryAddress : IrqSource → PcWord
  | .timer => 0x004#12
  | .external => 0x008#12

/-- TAKING AN INTERRUPT (60_exceptions.md R229): PC and C go onto the stack register, PC to the entry address, the
source's pending bit is cleared, CTX becomes ISR. The bank, IE, C and all else are unchanged. -/
def takeInterrupt (src : IrqSource) (s : State) : State :=
  { s with
    stackPc := s.pc
    stackC := s.c
    pc := entryAddress src
    tf := if src = .timer then false else s.tf
    extl := if src = .external then false else s.extl
    ctx := .isr }

/-- The return of RET and the first part of RETI: PC <- S, CTX <- MAIN; the stack register keeps its value
(46_subroutine_flag.md R172). -/
def returnFromStack (s : State) : State := { s with pc := s.stackPc, ctx := .main }

/-- The return of RETI: as RET, and C <- SC; IE is unchanged (46_subroutine_flag.md R173). -/
def returnRestoringCarry (s : State) : State := { returnFromStack s with c := s.stackC }

/-- The acceptance condition (60_exceptions.md R226). -/
def irqAccepted (s : State) : Bool := !s.halted && s.ie && s.ctx == .main && (s.tf || s.extl)

/-- Both sources are pending and IRQ_PRIORITY leaves the choice open (60_exceptions.md R228). -/
def irqTie (s : State) : Bool := s.tf && s.extl && s.cfg.irqPriority == .either

/-- The source that is taken (60_exceptions.md R228). Under `either` a free value decides between two pending
sources. -/
def chosenIrq (s : State) : IrqSource :=
  if s.tf && s.extl then
    match s.cfg.irqPriority with
    | .timerFirst => .timer
    | .externalFirst => .external
    | .either => if Config.irqPick s.draws then .timer else .external
  else if s.tf then .timer
  else .external

/-- The core's step when an interrupt is accepted: take the chosen source. A free value that was drawn is counted. -/
def acceptInterrupt (s : State) : State :=
  { takeInterrupt (chosenIrq s) s with draws := if irqTie s then s.draws + 1 else s.draws }

end Sys2Proof.Machine
end

