-- ==== Sys2Proof/Machine/Arithmetic.lean ====
section
/-! DEFINITION. Sys2Proof/Machine/Arithmetic.lean: the meanings of the arithmetic instructions (40_arithmetic.md). -/

namespace Sys2Proof.Machine

/-- ADD A,[R1R0] (R101). -/
def execAddAAtR1R0 (s : State) : Result :=
  withCell s (pairR1R0 s) fun m => advance 1 (addToAcc s m false)

/-- ADC A,[R1R0] (R102). -/
def execAdcAAtR1R0 (s : State) : Result :=
  withCell s (pairR1R0 s) fun m => advance 1 (addToAcc s m s.c)

/-- SUB A,[R1R0] (R103). -/
def execSubAAtR1R0 (s : State) : Result :=
  withCell s (pairR1R0 s) fun m => advance 1 (subFromAcc s m true)

/-- SBC A,[R1R0] (R104). -/
def execSbcAAtR1R0 (s : State) : Result :=
  withCell s (pairR1R0 s) fun m => advance 1 (subFromAcc s m s.c)

/-- ADD A,XH (R105). -/
def execAddAImm (imm : Nibble) (s : State) : Result :=
  .next (advance 2 (addToAcc s imm false))

/-- SUB A,XH (R106). -/
def execSubAImm (imm : Nibble) (s : State) : Result :=
  .next (advance 2 (subFromAcc s imm true))

/-- DAA (R107). -/
def execDaa (s : State) : Result :=
  .next (advance 1 (decimalAdjust s))

end Sys2Proof.Machine
end

