-- ==== Sys2Proof/Machine/Branch.lean ====
section
/-! DEFINITION. Sys2Proof/Machine/Branch.lean: the meanings of the branch instructions (45_branch.md). -/

namespace Sys2Proof.Machine

/-- JMP address (R156). -/
def execJmp (addr : PcWord) (s : State) : Result :=
  .next { s with pc := addr }

/-- JC address (R157). -/
def execJc (addr : BitVec 11) (s : State) : Result :=
  .next (branchIf s.c addr s)

/-- JNC address (R158). -/
def execJnc (addr : BitVec 11) (s : State) : Result :=
  .next (branchIf (!s.c) addr s)

/-- JTMR address (R159). TF is cleared taken or not (decision D19). -/
def execJtmr (addr : BitVec 11) (s : State) : Result :=
  .next { branchIf s.tf addr s with tf := false }

/-- JAn address (R160). -/
def execJan (n : BitVec 2) (addr : BitVec 11) (s : State) : Result :=
  .next (branchIf (accBit s n) addr s)

/-- JZ A,address (R161). -/
def execJzA (addr : BitVec 11) (s : State) : Result :=
  .next (branchIf (s.acc == 0x0#4) addr s)

/-- JNZ A,address (R162). -/
def execJnzA (addr : BitVec 11) (s : State) : Result :=
  .next (branchIf (s.acc != 0x0#4) addr s)

/-- JNZ R0,address (R163). -/
def execJnzR0 (addr : BitVec 11) (s : State) : Result :=
  .next (branchIf (getReg s .r0 != 0x0#4) addr s)

/-- JNZ R1,address (R163). -/
def execJnzR1 (addr : BitVec 11) (s : State) : Result :=
  .next (branchIf (getReg s .r1 != 0x0#4) addr s)

/-- JNZ R4,address (R163). -/
def execJnzR4 (addr : BitVec 11) (s : State) : Result :=
  .next (branchIf (getReg s .r4 != 0x0#4) addr s)

end Sys2Proof.Machine
end

