-- ==== Sys2Proof/Machine/DataMove.lean ====
section
/-! DEFINITION. Sys2Proof/Machine/DataMove.lean: the meanings of the data move instructions (43_datamove.md). -/

namespace Sys2Proof.Machine

/-- MOV A,R0 (R131). -/
def execMovAR0 (s : State) : Result :=
  .next (advance 1 { s with acc := getReg s .r0 })

/-- MOV A,R1 (R131). -/
def execMovAR1 (s : State) : Result :=
  .next (advance 1 { s with acc := getReg s .r1 })

/-- MOV A,R2 (R131). -/
def execMovAR2 (s : State) : Result :=
  .next (advance 1 { s with acc := getReg s .r2 })

/-- MOV A,R3 (R131). -/
def execMovAR3 (s : State) : Result :=
  .next (advance 1 { s with acc := getReg s .r3 })

/-- MOV A,R4 (R131). -/
def execMovAR4 (s : State) : Result :=
  .next (advance 1 { s with acc := getReg s .r4 })

/-- MOV R0,A (R132). -/
def execMovR0A (s : State) : Result :=
  .next (advance 1 (setReg s .r0 s.acc))

/-- MOV R1,A (R132). -/
def execMovR1A (s : State) : Result :=
  .next (advance 1 (setReg s .r1 s.acc))

/-- MOV R2,A (R132). -/
def execMovR2A (s : State) : Result :=
  .next (advance 1 (setReg s .r2 s.acc))

/-- MOV R3,A (R132). -/
def execMovR3A (s : State) : Result :=
  .next (advance 1 (setReg s .r3 s.acc))

/-- MOV R4,A (R132). -/
def execMovR4A (s : State) : Result :=
  .next (advance 1 (setReg s .r4 s.acc))

/-- MOV A,[R1R0] (R133). -/
def execMovAAtR1R0 (s : State) : Result :=
  withCell s (pairR1R0 s) fun m => advance 1 { s with acc := m }

/-- MOV A,[R3R2] (R134). -/
def execMovAAtR3R2 (s : State) : Result :=
  withCell s (pairR3R2 s) fun m => advance 1 { s with acc := m }

/-- MOV [R1R0],A (R135). -/
def execMovAtR1R0A (s : State) : Result :=
  storeCell s (pairR1R0 s) s.acc (advance 1)

/-- MOV [R3R2],A (R136). -/
def execMovAtR3R2A (s : State) : Result :=
  storeCell s (pairR3R2 s) s.acc (advance 1)

/-- MOV A,XH (R137). -/
def execMovAImm (imm : Nibble) (s : State) : Result :=
  .next (advance 1 { s with acc := imm })

/-- MOV R1R0,XXH (R138). -/
def execMovR1R0Imm (first : Nibble) (second : Nibble) (s : State) : Result :=
  let imm8 := pairImm s.cfg first second
  .next (advance 2 { s with r1 := hiNibble imm8, r0 := loNibble imm8 })

/-- MOV R3R2,XXH (R139). -/
def execMovR3R2Imm (first : Nibble) (second : Nibble) (s : State) : Result :=
  let imm8 := pairImm s.cfg first second
  .next (advance 2 { s with r3 := hiNibble imm8, r2 := loNibble imm8 })

/-- MOV R4,XH (R140). -/
def execMovR4Imm (imm : Nibble) (s : State) : Result :=
  .next (advance 2 { s with r4 := imm })

end Sys2Proof.Machine
end

