-- ==== Sys2Proof/Machine/IncDec.lean ====
section
/-! DEFINITION. Sys2Proof/Machine/IncDec.lean: the meanings of the increment and decrement instructions (42_incdec.md). -/

namespace Sys2Proof.Machine

/-- INC A (R121). -/
def execIncA (s : State) : Result :=
  .next (advance 1 { s with acc := s.acc + 0x1#4 })

/-- INC R0 (R122). -/
def execIncR0 (s : State) : Result :=
  .next (stepReg s .r0 0x1#4)

/-- INC R1 (R122). -/
def execIncR1 (s : State) : Result :=
  .next (stepReg s .r1 0x1#4)

/-- INC R2 (R122). -/
def execIncR2 (s : State) : Result :=
  .next (stepReg s .r2 0x1#4)

/-- INC R3 (R122). -/
def execIncR3 (s : State) : Result :=
  .next (stepReg s .r3 0x1#4)

/-- INC R4 (R122). -/
def execIncR4 (s : State) : Result :=
  .next (stepReg s .r4 0x1#4)

/-- INC [R1R0] (R123). -/
def execIncAtR1R0 (s : State) : Result :=
  modifyCell s (pairR1R0 s) (fun m => m + 0x1#4) (advance 1)

/-- INC [R3R2] (R124). -/
def execIncAtR3R2 (s : State) : Result :=
  modifyCell s (pairR3R2 s) (fun m => m + 0x1#4) (advance 1)

/-- DEC A (R125). -/
def execDecA (s : State) : Result :=
  .next (advance 1 { s with acc := s.acc + 0xF#4 })

/-- DEC R0 (R126). -/
def execDecR0 (s : State) : Result :=
  .next (stepReg s .r0 0xF#4)

/-- DEC R1 (R126). -/
def execDecR1 (s : State) : Result :=
  .next (stepReg s .r1 0xF#4)

/-- DEC R2 (R126). -/
def execDecR2 (s : State) : Result :=
  .next (stepReg s .r2 0xF#4)

/-- DEC R3 (R126). -/
def execDecR3 (s : State) : Result :=
  .next (stepReg s .r3 0xF#4)

/-- DEC R4 (R126). -/
def execDecR4 (s : State) : Result :=
  .next (stepReg s .r4 0xF#4)

/-- DEC [R1R0] (R127). -/
def execDecAtR1R0 (s : State) : Result :=
  modifyCell s (pairR1R0 s) (fun m => m + 0xF#4) (advance 1)

/-- DEC [R3R2] (R128). -/
def execDecAtR3R2 (s : State) : Result :=
  modifyCell s (pairR3R2 s) (fun m => m + 0xF#4) (advance 1)

end Sys2Proof.Machine
end

