-- ==== Sys2Proof/Machine/Logic.lean ====
section
/-! DEFINITION. Sys2Proof/Machine/Logic.lean: the meanings of the logic instructions (41_logic.md). -/

namespace Sys2Proof.Machine

/-- AND A,[R1R0] (R111). -/
def execAndAAtR1R0 (s : State) : Result :=
  withCell s (pairR1R0 s) fun m => advance 1 { s with acc := s.acc &&& m }

/-- OR A,[R1R0] (R112). -/
def execOrAAtR1R0 (s : State) : Result :=
  withCell s (pairR1R0 s) fun m => advance 1 { s with acc := s.acc ||| m }

/-- XOR A,[R1R0] (R113). -/
def execXorAAtR1R0 (s : State) : Result :=
  withCell s (pairR1R0 s) fun m => advance 1 { s with acc := s.acc ^^^ m }

/-- AND [R1R0],A (R114). -/
def execAndAtR1R0A (s : State) : Result :=
  modifyCell s (pairR1R0 s) (fun m => m &&& s.acc) (advance 1)

/-- OR [R1R0],A (R115). -/
def execOrAtR1R0A (s : State) : Result :=
  modifyCell s (pairR1R0 s) (fun m => m ||| s.acc) (advance 1)

/-- XOR [R1R0],A (R116). -/
def execXorAtR1R0A (s : State) : Result :=
  modifyCell s (pairR1R0 s) (fun m => m ^^^ s.acc) (advance 1)

/-- AND A,XH (R117). -/
def execAndAImm (imm : Nibble) (s : State) : Result :=
  .next (advance 2 { s with acc := s.acc &&& imm })

/-- OR A,XH (R118). -/
def execOrAImm (imm : Nibble) (s : State) : Result :=
  .next (advance 2 { s with acc := s.acc ||| imm })

/-- XOR A,XH (R119). -/
def execXorAImm (imm : Nibble) (s : State) : Result :=
  .next (advance 2 { s with acc := s.acc ^^^ imm })

end Sys2Proof.Machine
end

