-- ==== Sys2Proof/Machine/RotateIo.lean ====
section
/-! DEFINITION. Sys2Proof/Machine/RotateIo.lean: the meanings of the rotate and port instructions (44_rotate_io.md). -/

namespace Sys2Proof.Machine

/-- RL A (R146). -/
def execRlA (s : State) : Result :=
  .next (advance 1 (rotateLeftWith s (s.acc.getLsbD 3)))

/-- RLC A (R147). -/
def execRlcA (s : State) : Result :=
  .next (advance 1 (rotateLeftWith s s.c))

/-- RR A (R148). -/
def execRrA (s : State) : Result :=
  .next (advance 1 (rotateRightWith s (s.acc.getLsbD 0)))

/-- RRC A (R149). -/
def execRrcA (s : State) : Result :=
  .next (advance 1 (rotateRightWith s s.c))

/-- IN A,PS (R150). -/
def execInAPs (s : State) : Result :=
  .next (advance 1 { s with acc := readPs s })

/-- IN A,PP (R150). -/
def execInAPp (s : State) : Result :=
  .next (advance 1 { s with acc := readPp s })

/-- OUT PA,A (R151). All four latch bits; the next fetch uses the new bank (R152). -/
def execOutPaA (s : State) : Result :=
  .next (advance 1 { s with pa := s.acc })

end Sys2Proof.Machine
end

