-- ==== Sys2Proof/Machine/SoundHalt.lean ====
section
/-! DEFINITION. Sys2Proof/Machine/SoundHalt.lean: the meanings of the sound instructions and HALT (49_sound_halt.md). -/

namespace Sys2Proof.Machine

/-- SOUND n (R206). The generator starts at the first note. -/
def execSoundN (n : Nibble) (s : State) : Result :=
  .next (advance 2 { s with sndCh := n, sndOn := true, sndNote := 0 })

/-- SOUND A (R207). The sound whose number is ACC, from its first note. -/
def execSoundA (s : State) : Result :=
  .next (advance 1 { s with sndCh := s.acc, sndOn := true, sndNote := 0 })

/-- SOUND ONE (R208). -/
def execSoundOne (s : State) : Result :=
  .next (advance 1 { s with sndMode := .one })

/-- SOUND LOOP (R209). -/
def execSoundLoop (s : State) : Result :=
  .next (advance 1 { s with sndMode := .loop })

/-- SOUND OFF (R210). -/
def execSoundOff (s : State) : Result :=
  .next (advance 1 { s with sndOn := false })

/-- HALT (R211). PC is left at the address after both bytes (decision D15). -/
def execHalt (s : State) : Result :=
  .next (advance 2 { s with halted := true })

end Sys2Proof.Machine
end

