-- ==== Sys2Proof/Machine/Subroutine.lean ====
section
/-! DEFINITION. Sys2Proof/Machine/Subroutine.lean: the meanings of the subroutine, flag and interrupt enable instructions, and NOP (46_subroutine_flag.md). -/

namespace Sys2Proof.Machine

/-- CALL address (R171). In an interrupt routine the source calls the result unpredictable (decision D21).
SC keeps its value (decision D20). -/
def execCall (addr : PcWord) (s : State) : Result :=
  if s.ctx = .isr then .fault .callInIsr
  else .next { s with stackPc := npc s 2, pc := addr, ctx := .sub }

/-- RET (R172). -/
def execRet (s : State) : Result :=
  .next (returnFromStack s)

/-- RETI (R173). -/
def execReti (s : State) : Result :=
  .next (returnRestoringCarry s)

/-- CLC (R174). -/
def execClc (s : State) : Result :=
  .next (advance 1 { s with c := false })

/-- STC (R175). -/
def execStc (s : State) : Result :=
  .next (advance 1 { s with c := true })

/-- EI (R176). -/
def execEi (s : State) : Result :=
  .next (advance 1 { s with ie := true })

/-- DI (R177). -/
def execDi (s : State) : Result :=
  .next (advance 1 { s with ie := false })

/-- NOP (R178). -/
def execNop (s : State) : Result :=
  .next (advance 1 s)

end Sys2Proof.Machine
end

