-- ==== Sys2Proof/Machine/TableRead.lean ====
section
/-! DEFINITION. Sys2Proof/Machine/TableRead.lean: the meanings of the table read instructions (48_tableread.md). -/

namespace Sys2Proof.Machine

/-- READ R4A (R196). -/
def execReadR4A (s : State) : Result :=
  withCell s (pairR1R0 s) fun low =>
    let byte := tableByte s (currentPage s) low
    advance 1 { s with r4 := hiNibble byte, acc := loNibble byte }

/-- READ MR0A (R197). -/
def execReadMr0A (s : State) : Result :=
  let byte := tableByte s (currentPage s) s.r4
  storeCell s (pairR1R0 s) (hiNibble byte) fun t => advance 1 { t with acc := loNibble byte }

/-- READF R4A (R198). -/
def execReadfR4A (s : State) : Result :=
  withCell s (pairR1R0 s) fun low =>
    let byte := tableByte s pageF low
    advance 1 { s with r4 := hiNibble byte, acc := loNibble byte }

/-- READF MR0A (R199). -/
def execReadfMr0A (s : State) : Result :=
  let byte := tableByte s pageF s.r4
  storeCell s (pairR1R0 s) (hiNibble byte) fun t => advance 1 { t with acc := loNibble byte }

end Sys2Proof.Machine
end

