-- ==== Sys2Proof/Machine/Timer.lean ====
section
/-! DEFINITION. Sys2Proof/Machine/Timer.lean: the meanings of the timer instructions (47_timer.md). -/

namespace Sys2Proof.Machine

/-- TIMER XXH (R186). -/
def execTimerImm (imm : Byte) (s : State) : Result :=
  .next (advance 2 { s with tmr := imm })

/-- TIMER ON (R187). -/
def execTimerOn (s : State) : Result :=
  .next (advance 1 { s with ton := true })

/-- TIMER OFF (R188). -/
def execTimerOff (s : State) : Result :=
  .next (advance 1 { s with ton := false })

/-- MOV A,TMRL (R189). -/
def execMovATmrl (s : State) : Result :=
  .next (advance 1 { s with acc := loNibble s.tmr })

/-- MOV A,TMRH (R190). -/
def execMovATmrh (s : State) : Result :=
  .next (advance 1 { s with acc := hiNibble s.tmr })

/-- MOV TMRL,A (R191). -/
def execMovTmrlA (s : State) : Result :=
  .next (advance 1 { s with tmr := hiNibble s.tmr ++ s.acc })

/-- MOV TMRH,A (R192). -/
def execMovTmrhA (s : State) : Result :=
  .next (advance 1 { s with tmr := s.acc ++ loNibble s.tmr })

end Sys2Proof.Machine
end

