-- ==== Sys2Proof/Machine/Undefined.lean ====
section
/-! DEFINITION. Sys2Proof/Machine/Undefined.lean: the meanings of the two first bytes that are no instruction (30_encoding.md). -/

namespace Sys2Proof.Machine

/-- (undefined 32H) (R89). The source assigns the first byte 32H to no instruction (decision D5). -/
def execUndefined32H (_s : State) : Result :=
  .fault .undefinedOpcode

/-- (undefined 35H) (R89). The source assigns the first byte 35H to no instruction (decision D5). -/
def execUndefined35H (_s : State) : Result :=
  .fault .undefinedOpcode

end Sys2Proof.Machine
end

