-- ==== Sys2Proof/Machine/Dispatch.lean ====
section
/-! DEFINITION. Sys2Proof/Machine/Dispatch.lean: one arm per constructor of Instr, in the order of
spec/opcode_table.json. -/

namespace Sys2Proof.Machine

def exec (i : Instr) (s : State) : Host.Outcome State Fault Refusal :=
  match i with
  | .addAAtR1R0 => Sys2Proof.Machine.execAddAAtR1R0 s
  | .adcAAtR1R0 => Sys2Proof.Machine.execAdcAAtR1R0 s
  | .subAAtR1R0 => Sys2Proof.Machine.execSubAAtR1R0 s
  | .sbcAAtR1R0 => Sys2Proof.Machine.execSbcAAtR1R0 s
  | .addAImm imm => Sys2Proof.Machine.execAddAImm imm s
  | .subAImm imm => Sys2Proof.Machine.execSubAImm imm s
  | .daa => Sys2Proof.Machine.execDaa s
  | .andAAtR1R0 => Sys2Proof.Machine.execAndAAtR1R0 s
  | .orAAtR1R0 => Sys2Proof.Machine.execOrAAtR1R0 s
  | .xorAAtR1R0 => Sys2Proof.Machine.execXorAAtR1R0 s
  | .andAtR1R0A => Sys2Proof.Machine.execAndAtR1R0A s
  | .orAtR1R0A => Sys2Proof.Machine.execOrAtR1R0A s
  | .xorAtR1R0A => Sys2Proof.Machine.execXorAtR1R0A s
  | .andAImm imm => Sys2Proof.Machine.execAndAImm imm s
  | .orAImm imm => Sys2Proof.Machine.execOrAImm imm s
  | .xorAImm imm => Sys2Proof.Machine.execXorAImm imm s
  | .incA => Sys2Proof.Machine.execIncA s
  | .incR0 => Sys2Proof.Machine.execIncR0 s
  | .incR1 => Sys2Proof.Machine.execIncR1 s
  | .incR2 => Sys2Proof.Machine.execIncR2 s
  | .incR3 => Sys2Proof.Machine.execIncR3 s
  | .incR4 => Sys2Proof.Machine.execIncR4 s
  | .incAtR1R0 => Sys2Proof.Machine.execIncAtR1R0 s
  | .incAtR3R2 => Sys2Proof.Machine.execIncAtR3R2 s
  | .decA => Sys2Proof.Machine.execDecA s
  | .decR0 => Sys2Proof.Machine.execDecR0 s
  | .decR1 => Sys2Proof.Machine.execDecR1 s
  | .decR2 => Sys2Proof.Machine.execDecR2 s
  | .decR3 => Sys2Proof.Machine.execDecR3 s
  | .decR4 => Sys2Proof.Machine.execDecR4 s
  | .decAtR1R0 => Sys2Proof.Machine.execDecAtR1R0 s
  | .decAtR3R2 => Sys2Proof.Machine.execDecAtR3R2 s
  | .movAR0 => Sys2Proof.Machine.execMovAR0 s
  | .movAR1 => Sys2Proof.Machine.execMovAR1 s
  | .movAR2 => Sys2Proof.Machine.execMovAR2 s
  | .movAR3 => Sys2Proof.Machine.execMovAR3 s
  | .movAR4 => Sys2Proof.Machine.execMovAR4 s
  | .movR0A => Sys2Proof.Machine.execMovR0A s
  | .movR1A => Sys2Proof.Machine.execMovR1A s
  | .movR2A => Sys2Proof.Machine.execMovR2A s
  | .movR3A => Sys2Proof.Machine.execMovR3A s
  | .movR4A => Sys2Proof.Machine.execMovR4A s
  | .movAAtR1R0 => Sys2Proof.Machine.execMovAAtR1R0 s
  | .movAAtR3R2 => Sys2Proof.Machine.execMovAAtR3R2 s
  | .movAtR1R0A => Sys2Proof.Machine.execMovAtR1R0A s
  | .movAtR3R2A => Sys2Proof.Machine.execMovAtR3R2A s
  | .movAImm imm => Sys2Proof.Machine.execMovAImm imm s
  | .movR1R0Imm first second => Sys2Proof.Machine.execMovR1R0Imm first second s
  | .movR3R2Imm first second => Sys2Proof.Machine.execMovR3R2Imm first second s
  | .movR4Imm imm => Sys2Proof.Machine.execMovR4Imm imm s
  | .rlA => Sys2Proof.Machine.execRlA s
  | .rlcA => Sys2Proof.Machine.execRlcA s
  | .rrA => Sys2Proof.Machine.execRrA s
  | .rrcA => Sys2Proof.Machine.execRrcA s
  | .inAPs => Sys2Proof.Machine.execInAPs s
  | .inAPp => Sys2Proof.Machine.execInAPp s
  | .outPaA => Sys2Proof.Machine.execOutPaA s
  | .jmp addr => Sys2Proof.Machine.execJmp addr s
  | .jc addr => Sys2Proof.Machine.execJc addr s
  | .jnc addr => Sys2Proof.Machine.execJnc addr s
  | .jtmr addr => Sys2Proof.Machine.execJtmr addr s
  | .jan n addr => Sys2Proof.Machine.execJan n addr s
  | .jzA addr => Sys2Proof.Machine.execJzA addr s
  | .jnzA addr => Sys2Proof.Machine.execJnzA addr s
  | .jnzR0 addr => Sys2Proof.Machine.execJnzR0 addr s
  | .jnzR1 addr => Sys2Proof.Machine.execJnzR1 addr s
  | .jnzR4 addr => Sys2Proof.Machine.execJnzR4 addr s
  | .call addr => Sys2Proof.Machine.execCall addr s
  | .ret => Sys2Proof.Machine.execRet s
  | .reti => Sys2Proof.Machine.execReti s
  | .clc => Sys2Proof.Machine.execClc s
  | .stc => Sys2Proof.Machine.execStc s
  | .ei => Sys2Proof.Machine.execEi s
  | .di => Sys2Proof.Machine.execDi s
  | .nop => Sys2Proof.Machine.execNop s
  | .timerImm imm => Sys2Proof.Machine.execTimerImm imm s
  | .timerOn => Sys2Proof.Machine.execTimerOn s
  | .timerOff => Sys2Proof.Machine.execTimerOff s
  | .movATmrl => Sys2Proof.Machine.execMovATmrl s
  | .movATmrh => Sys2Proof.Machine.execMovATmrh s
  | .movTmrlA => Sys2Proof.Machine.execMovTmrlA s
  | .movTmrhA => Sys2Proof.Machine.execMovTmrhA s
  | .readR4A => Sys2Proof.Machine.execReadR4A s
  | .readMr0A => Sys2Proof.Machine.execReadMr0A s
  | .readfR4A => Sys2Proof.Machine.execReadfR4A s
  | .readfMr0A => Sys2Proof.Machine.execReadfMr0A s
  | .soundN n => Sys2Proof.Machine.execSoundN n s
  | .soundA => Sys2Proof.Machine.execSoundA s
  | .soundOne => Sys2Proof.Machine.execSoundOne s
  | .soundLoop => Sys2Proof.Machine.execSoundLoop s
  | .soundOff => Sys2Proof.Machine.execSoundOff s
  | .halt => Sys2Proof.Machine.execHalt s
  | .undefined32H => Sys2Proof.Machine.execUndefined32H s
  | .undefined35H => Sys2Proof.Machine.execUndefined35H s

end Sys2Proof.Machine
end

