-- ==== Sys2Proof/Decode.lean ====
section
/-! DEFINITION. Sys2Proof/Decode.lean: the decoder and the encoder (30_encoding.md R80 to R93), written from the same
patterns. -/

namespace Sys2Proof

/-- The length in bytes (30_encoding.md R80; column Byte of 70_reset_and_hazards.md R273). -/
def Instr.length : Instr → Nat
  | .addAAtR1R0 | .adcAAtR1R0 | .subAAtR1R0 | .sbcAAtR1R0 | .daa | .andAAtR1R0 | .orAAtR1R0 | .xorAAtR1R0
  | .andAtR1R0A | .orAtR1R0A | .xorAtR1R0A | .incA | .incR0 | .incR1 | .incR2 | .incR3 | .incR4 | .incAtR1R0
  | .incAtR3R2 | .decA | .decR0 | .decR1 | .decR2 | .decR3 | .decR4 | .decAtR1R0 | .decAtR3R2 | .movAR0
  | .movAR1 | .movAR2 | .movAR3 | .movAR4 | .movR0A | .movR1A | .movR2A | .movR3A | .movR4A | .movAAtR1R0
  | .movAAtR3R2 | .movAtR1R0A | .movAtR3R2A | .movAImm _ | .rlA | .rlcA | .rrA | .rrcA | .inAPs | .inAPp
  | .outPaA | .ret | .reti | .clc | .stc | .ei | .di | .nop | .timerOn | .timerOff | .movATmrl | .movATmrh
  | .movTmrlA | .movTmrhA | .readR4A | .readMr0A | .readfR4A | .readfMr0A | .soundA | .soundOne | .soundLoop
  | .soundOff | .undefined32H | .undefined35H => 1
  | .addAImm _ | .subAImm _ | .andAImm _ | .orAImm _ | .xorAImm _ | .movR1R0Imm _ _ | .movR3R2Imm _ _
  | .movR4Imm _ | .jmp _ | .jc _ | .jnc _ | .jtmr _ | .jan _ _ | .jzA _ | .jnzA _ | .jnzR0 _ | .jnzR1 _
  | .jnzR4 _ | .call _ | .timerImm _ | .soundN _ | .halt => 2

/-- Bits 7..4 of a byte. -/
def highNibble (b : Byte) : Nibble := b.extractLsb' 4 4

/-- Bits 3..0 of a byte. -/
def lowNibble (b : Byte) : Nibble := b.extractLsb' 0 4

/-- The first byte is that of a two-byte instruction: 37H, 40H..47H, 50H..6FH, 80H..FFH (30_encoding.md R80). -/
def isTwoByte (b1 : Byte) : Bool :=
  b1 == 0x37#8 || (0x40#8 ≤ b1 && b1 ≤ 0x47#8) || (0x50#8 ≤ b1 && b1 ≤ 0x6F#8) || 0x80#8 ≤ b1

/-- The one-byte rows of the first-byte map (30_encoding.md R86). 32H and 35H are the two undefined first bytes, of
length 1 (R89); the other first bytes without a row here are those of two-byte instructions. -/
def decodeOneByte (b1 : Byte) : Option Instr :=
  match b1.toNat with
  | 0x00 => some .rrA
  | 0x01 => some .rlA
  | 0x02 => some .rrcA
  | 0x03 => some .rlcA
  | 0x04 => some .movAAtR1R0
  | 0x05 => some .movAtR1R0A
  | 0x06 => some .movAAtR3R2
  | 0x07 => some .movAtR3R2A
  | 0x08 => some .adcAAtR1R0
  | 0x09 => some .addAAtR1R0
  | 0x0A => some .sbcAAtR1R0
  | 0x0B => some .subAAtR1R0
  | 0x0C => some .incAtR1R0
  | 0x0D => some .decAtR1R0
  | 0x0E => some .incAtR3R2
  | 0x0F => some .decAtR3R2
  | 0x10 => some .incR0
  | 0x11 => some .decR0
  | 0x12 => some .incR1
  | 0x13 => some .decR1
  | 0x14 => some .incR2
  | 0x15 => some .decR2
  | 0x16 => some .incR3
  | 0x17 => some .decR3
  | 0x18 => some .incR4
  | 0x19 => some .decR4
  | 0x1A => some .andAAtR1R0
  | 0x1B => some .xorAAtR1R0
  | 0x1C => some .orAAtR1R0
  | 0x1D => some .andAtR1R0A
  | 0x1E => some .xorAtR1R0A
  | 0x1F => some .orAtR1R0A
  | 0x20 => some .movR0A
  | 0x21 => some .movAR0
  | 0x22 => some .movR1A
  | 0x23 => some .movAR1
  | 0x24 => some .movR2A
  | 0x25 => some .movAR2
  | 0x26 => some .movR3A
  | 0x27 => some .movAR3
  | 0x28 => some .movR4A
  | 0x29 => some .movAR4
  | 0x2A => some .clc
  | 0x2B => some .stc
  | 0x2C => some .ei
  | 0x2D => some .di
  | 0x2E => some .ret
  | 0x2F => some .reti
  | 0x30 => some .outPaA
  | 0x31 => some .incA
  | 0x32 => some .undefined32H
  | 0x33 => some .inAPs
  | 0x34 => some .inAPp
  | 0x35 => some .undefined35H
  | 0x36 => some .daa
  | 0x38 => some .timerOn
  | 0x39 => some .timerOff
  | 0x3A => some .movATmrl
  | 0x3B => some .movATmrh
  | 0x3C => some .movTmrlA
  | 0x3D => some .movTmrhA
  | 0x3E => some .nop
  | 0x3F => some .decA
  | 0x48 => some .soundOne
  | 0x49 => some .soundLoop
  | 0x4A => some .soundOff
  | 0x4B => some .soundA
  | 0x4C => some .readR4A
  | 0x4D => some .readfR4A
  | 0x4E => some .readMr0A
  | 0x4F => some .readfMr0A
  | _ => if highNibble b1 = 0x7#4 then some (.movAImm (lowNibble b1)) else none

/-- The operand of formats IMM4 and PAIR in the second byte: bits 3..0. A non-zero bit 7..4 is rejected when
STRICT_SECOND_BYTE is true and ignored when it is false (30_encoding.md R82, decision D6). -/
def secondNibble (strict : Bool) (b2 : Byte) : Option Nibble :=
  if strict && highNibble b2 != 0x0#4 then none else some (lowNibble b2)

/-- addr11 = {b1[2:0], b2[7:0]} (30_encoding.md R84, decision D2). -/
def addr11 (b1 b2 : Byte) : BitVec 11 := b1.extractLsb' 0 3 ++ b2

/-- addr12 = {b1[3:0], b2[7:0]} (30_encoding.md R84, decision D2). -/
def addr12 (b1 b2 : Byte) : PcWord := b1.extractLsb' 0 4 ++ b2

/-- First bytes 40H..47H, told apart by bits 2..0 (30_encoding.md R86). -/
def decodeImmGroup (strict : Bool) (op : BitVec 3) (b2 : Byte) : Option Instr :=
  match op.toNat with
  | 0 => (secondNibble strict b2).map .addAImm
  | 1 => (secondNibble strict b2).map .subAImm
  | 2 => (secondNibble strict b2).map .andAImm
  | 3 => (secondNibble strict b2).map .xorAImm
  | 4 => (secondNibble strict b2).map .orAImm
  | 5 => (secondNibble strict b2).map .soundN
  | 6 => (secondNibble strict b2).map .movR4Imm
  | _ => some (.timerImm b2)

/-- The two-byte rows of the first-byte map (30_encoding.md R86, R87), by the high nibble of the first byte and, in the
conditional branches, its bit 3. Nothing but a second byte outside the printed pattern is rejected. -/
def decodeTwoByte (strict : Bool) (b1 b2 : Byte) : Option Instr :=
  match (highNibble b1).toNat with
  | 0x3 => if strict && b2 != 0x3E#8 then none else some .halt
  | 0x4 => decodeImmGroup strict (b1.extractLsb' 0 3) b2
  | 0x5 => (secondNibble strict b2).map (.movR1R0Imm (lowNibble b1))
  | 0x6 => (secondNibble strict b2).map (.movR3R2Imm (lowNibble b1))
  | 0x8 => some (.jan (b1.extractLsb' 3 2) (addr11 b1 b2))
  | 0x9 => some (.jan (b1.extractLsb' 3 2) (addr11 b1 b2))
  | 0xA => some (if b1.getLsbD 3 then .jnzR1 (addr11 b1 b2) else .jnzR0 (addr11 b1 b2))
  | 0xB => some (if b1.getLsbD 3 then .jnzA (addr11 b1 b2) else .jzA (addr11 b1 b2))
  | 0xC => some (if b1.getLsbD 3 then .jnc (addr11 b1 b2) else .jc (addr11 b1 b2))
  | 0xD => some (if b1.getLsbD 3 then .jnzR4 (addr11 b1 b2) else .jtmr (addr11 b1 b2))
  | 0xE => some (.jmp (addr12 b1 b2))
  | 0xF => some (.call (addr12 b1 b2))
  | _ => none

/-- The instruction at two adjacent bytes (30_encoding.md R93); `b2` is used only by a two-byte instruction. `none` is
the reserved second byte of R82 and R87. -/
def decodePair (strict : Bool) (b1 b2 : Byte) : Option Instr :=
  if isTwoByte b1 then decodeTwoByte strict b1 b2 else decodeOneByte b1

/-- Why a list of bytes is rejected. -/
inductive DecodeError where
  /-- the list ends before the instruction does -/
  | truncated
  /-- a second byte outside the printed pattern, with STRICT_SECOND_BYTE true (30_encoding.md R82, R87) -/
  | reservedEncoding
deriving DecidableEq, Repr

/-- Decode the instruction at the head of a list of bytes, first byte first (20_memory.md R57), and give the rest of the
list. -/
def decode (strict : Bool) : List Byte → Except DecodeError (Instr × List Byte)
  | [] => .error .truncated
  | b1 :: rest =>
    if isTwoByte b1 then
      match rest with
      | [] => .error .truncated
      | b2 :: rest' =>
        match decodeTwoByte strict b1 b2 with
        | some i => .ok (i, rest')
        | none => .error .reservedEncoding
    else
      match decodeOneByte b1 with
      | some i => .ok (i, rest)
      | none => .error .reservedEncoding

/-- The bytes of an instruction, first byte first (30_encoding.md R86; the pattern of each row of
spec/opcode_table.json). -/
def encode : Instr → List Byte
  | .addAAtR1R0 => [0x09#8]
  | .adcAAtR1R0 => [0x08#8]
  | .subAAtR1R0 => [0x0B#8]
  | .sbcAAtR1R0 => [0x0A#8]
  | .addAImm imm => [0x40#8, 0x0#4 ++ imm]
  | .subAImm imm => [0x41#8, 0x0#4 ++ imm]
  | .daa => [0x36#8]
  | .andAAtR1R0 => [0x1A#8]
  | .orAAtR1R0 => [0x1C#8]
  | .xorAAtR1R0 => [0x1B#8]
  | .andAtR1R0A => [0x1D#8]
  | .orAtR1R0A => [0x1F#8]
  | .xorAtR1R0A => [0x1E#8]
  | .andAImm imm => [0x42#8, 0x0#4 ++ imm]
  | .orAImm imm => [0x44#8, 0x0#4 ++ imm]
  | .xorAImm imm => [0x43#8, 0x0#4 ++ imm]
  | .incA => [0x31#8]
  | .incR0 => [0x10#8]
  | .incR1 => [0x12#8]
  | .incR2 => [0x14#8]
  | .incR3 => [0x16#8]
  | .incR4 => [0x18#8]
  | .incAtR1R0 => [0x0C#8]
  | .incAtR3R2 => [0x0E#8]
  | .decA => [0x3F#8]
  | .decR0 => [0x11#8]
  | .decR1 => [0x13#8]
  | .decR2 => [0x15#8]
  | .decR3 => [0x17#8]
  | .decR4 => [0x19#8]
  | .decAtR1R0 => [0x0D#8]
  | .decAtR3R2 => [0x0F#8]
  | .movAR0 => [0x21#8]
  | .movAR1 => [0x23#8]
  | .movAR2 => [0x25#8]
  | .movAR3 => [0x27#8]
  | .movAR4 => [0x29#8]
  | .movR0A => [0x20#8]
  | .movR1A => [0x22#8]
  | .movR2A => [0x24#8]
  | .movR3A => [0x26#8]
  | .movR4A => [0x28#8]
  | .movAAtR1R0 => [0x04#8]
  | .movAAtR3R2 => [0x06#8]
  | .movAtR1R0A => [0x05#8]
  | .movAtR3R2A => [0x07#8]
  | .movAImm imm => [0x7#4 ++ imm]
  | .movR1R0Imm first second => [0x5#4 ++ first, 0x0#4 ++ second]
  | .movR3R2Imm first second => [0x6#4 ++ first, 0x0#4 ++ second]
  | .movR4Imm imm => [0x46#8, 0x0#4 ++ imm]
  | .rlA => [0x01#8]
  | .rlcA => [0x03#8]
  | .rrA => [0x00#8]
  | .rrcA => [0x02#8]
  | .inAPs => [0x33#8]
  | .inAPp => [0x34#8]
  | .outPaA => [0x30#8]
  | .jmp addr => [0xE#4 ++ addr.extractLsb' 8 4, addr.extractLsb' 0 8]
  | .jc addr => [0b11000#5 ++ addr.extractLsb' 8 3, addr.extractLsb' 0 8]
  | .jnc addr => [0b11001#5 ++ addr.extractLsb' 8 3, addr.extractLsb' 0 8]
  | .jtmr addr => [0b11010#5 ++ addr.extractLsb' 8 3, addr.extractLsb' 0 8]
  | .jan n addr => [0b100#3 ++ n ++ addr.extractLsb' 8 3, addr.extractLsb' 0 8]
  | .jzA addr => [0b10110#5 ++ addr.extractLsb' 8 3, addr.extractLsb' 0 8]
  | .jnzA addr => [0b10111#5 ++ addr.extractLsb' 8 3, addr.extractLsb' 0 8]
  | .jnzR0 addr => [0b10100#5 ++ addr.extractLsb' 8 3, addr.extractLsb' 0 8]
  | .jnzR1 addr => [0b10101#5 ++ addr.extractLsb' 8 3, addr.extractLsb' 0 8]
  | .jnzR4 addr => [0b11011#5 ++ addr.extractLsb' 8 3, addr.extractLsb' 0 8]
  | .call addr => [0xF#4 ++ addr.extractLsb' 8 4, addr.extractLsb' 0 8]
  | .ret => [0x2E#8]
  | .reti => [0x2F#8]
  | .clc => [0x2A#8]
  | .stc => [0x2B#8]
  | .ei => [0x2C#8]
  | .di => [0x2D#8]
  | .nop => [0x3E#8]
  | .timerImm imm => [0x47#8, imm]
  | .timerOn => [0x38#8]
  | .timerOff => [0x39#8]
  | .movATmrl => [0x3A#8]
  | .movATmrh => [0x3B#8]
  | .movTmrlA => [0x3C#8]
  | .movTmrhA => [0x3D#8]
  | .readR4A => [0x4C#8]
  | .readMr0A => [0x4E#8]
  | .readfR4A => [0x4D#8]
  | .readfMr0A => [0x4F#8]
  | .soundN n => [0x45#8, 0x0#4 ++ n]
  | .soundA => [0x4B#8]
  | .soundOne => [0x48#8]
  | .soundLoop => [0x49#8]
  | .soundOff => [0x4A#8]
  | .halt => [0x37#8, 0x3E#8]
  | .undefined32H => [0x32#8]
  | .undefined35H => [0x35#8]

/-- The two bytes that bits w of a row of spec/opcode_table.json stand for. The table writes a two-byte row as one
16-bit number with the FIRST byte in the high half (spec/INDEX.md), so its bits 15..8 are the first byte
(notes/assumptions/27.md); a row of one byte is followed by a byte 00H. -/
def tableBytes (nbits w : Nat) : Byte × Byte :=
  if nbits ≤ 8 then (BitVec.ofNat 8 w, 0x00#8) else (BitVec.ofNat 8 (w / 256), BitVec.ofNat 8 w)

/-- The instruction the decoder reads from the bits of a row of spec/opcode_table.json, with STRICT_SECOND_BYTE at its
default true. -/
def decodeTableWord (nbits w : Nat) : Option Instr :=
  decodePair true (tableBytes nbits w).1 (tableBytes nbits w).2

end Sys2Proof
end

