-- ==== Sys2Proof/Machine/Agents.lean ====
section
/-! DEFINITION. Sys2Proof/Machine/Agents.lean: the steps of the agents other than the core: the timer, the sound
generator, the environment and reset (60_exceptions.md R240 to R251, 70_reset_and_hazards.md R260). -/

namespace Sys2Proof.Machine

/-- TimerTick: enabled when TON = 1 and HALTED = 0; counts up, and sets TF when the count passes from FFH to 00H
(60_exceptions.md R240). Not enabled, it changes nothing. -/
def timerTick (s : State) : State :=
  if s.ton && !s.halted then
    if s.tmr = 0xFF#8 then { s with tmr := 0x00#8, tf := true } else { s with tmr := s.tmr + 1#8 }
  else s

/-- The number of the last note of a sound: sounds 0 to 11 have 32 notes, 12 to 15 have 64
(49_sound_halt.md R206, 60_exceptions.md R242). -/
def lastNote (ch : Nibble) : BitVec 6 := if 0xC#4 ≤ ch then 63#6 else 31#6

/-- The note being played ends. After the last note the sound ends in ONE mode (SoundEnd, 60_exceptions.md R242,
49_sound_halt.md R208) and starts again in LOOP mode (R209). Not enabled while no sound plays or in HALT mode, where the
generator's clock is stopped. -/
def soundNote (s : State) : State :=
  if s.sndOn && !s.halted then
    if s.sndNote = lastNote s.sndCh then
      match s.sndMode with
      | .one => { s with sndOn := false, sndNote := 0 }
      | .loop => { s with sndNote := 0 }
    else { s with sndNote := s.sndNote + 1 }
  else s

/-- The sound generator puts levels on the pads BZ and its complement. Which levels is not in any source (00_scope.md
R5 (c)); in HALT mode its clock is stopped, and while RES is low the pads are held high (10_state.md R36;
notes/assumptions/29.md). -/
def soundPads (a b : Bool) (s : State) : State :=
  if s.halted || s.resLow then s else { s with bz := a, bzBar := b }

/-- Bit i is 1 when pin i goes from high to low and its WAKE option is selected (60_exceptions.md R224, R246). -/
def fallingEdges (old new wake : Nibble) : Nibble := old &&& ~~~new &&& wake

/-- A wake-enabled pin of PS or PP falls when the ports become `ps` and `pp` (60_exceptions.md R246). -/
def wakeEdge (s : State) (ps pp : InputPort) : Bool :=
  fallingEdges (readPs s) (portPins ps s.cfg.pullPs) s.cfg.wakePs != 0x0#4 ||
    fallingEdges (readPp s) (portPins pp s.cfg.pullPp) s.cfg.wakePp != 0x0#4

/-- The wake-up: HALTED <- 0, EXTL <- 1; when IE = 0 and EXTL_HELD_UNDER_DI is false, EXTL is cleared again at once
(60_exceptions.md R225, R246, decision D14). -/
def wakeUp (s : State) : State :=
  { s with halted := false, extl := s.ie || s.cfg.extlHeldUnderDi }

/-- The environment sets the pins. In HALT mode a falling edge of a wake-enabled pin is the wake-up; at any other time
the pins are only seen by IN A,Pi (60_exceptions.md R224). -/
def setPins (ps pp : InputPort) (s : State) : State :=
  let t : State := { s with ps := ps, pp := pp }
  if s.halted && wakeEdge s ps pp then wakeUp t else t

/-- The initial reset (70_reset_and_hazards.md R260, R261): the whole state of the chip becomes the reset state, and RES
is low until a turn `resHigh`. The ROM image, the configuration, the pins and the model's own fields are no state of the
chip; the count of resets goes up, so RAM contents do not survive (10_state.md R42, decision D23). -/
def resetNow (s : State) : State :=
  { State.reset with
    rom := s.rom
    cfg := s.cfg
    ps := s.ps
    pp := s.pp
    resLow := true
    turns := s.turns
    draws := s.draws
    resets := s.resets + 1 }

/-- RES returns high: execution starts (70_reset_and_hazards.md R260). -/
def releaseReset (s : State) : State := { s with resLow := false }

end Sys2Proof.Machine
end

