-- ==== Sys2Proof/Machine/Fetch.lean ====
section
/-! DEFINITION. Sys2Proof/Machine/Fetch.lean: fetching an instruction, when the core may move, and placing an
instruction where it is fetched. -/

namespace Sys2Proof.Machine

/-- The instruction at PC in the current bank (00_scope.md R12, 20_memory.md R51): its first byte at PC and its second at
PC + 1 modulo 4096. Reading ROM has no side effect (20_memory.md R62), so the second byte of a one-byte instruction is
read and dropped. `none` is a reserved second byte. -/
def fetch (s : State) : Option Instr :=
  decodePair s.cfg.strictSecondByte (romRead s s.pc) (romRead s (s.pc + 1#12))

/-- The core does nothing: HALT mode (60_exceptions.md R245), or RES is low (70_reset_and_hazards.md R260). -/
def coreIdle (s : State) : Bool := s.halted || s.resLow

/-- ROM with two bytes of the image replaced at PC and PC + 1 in the current bank. -/
def placeBytes (s : State) (b : Byte × Byte) : List Host.Cell :=
  romPut (romPut s.rom (bank s ++ s.pc) b.1) (bank s ++ (s.pc + 1#12)) b.2

/-- The state with the core free to fetch in the next step: no turn of another agent is due, the chip is neither in HALT
mode nor held in reset, and no interrupt is accepted (IE is cleared only if one would be). -/
def readyToFetch (s : State) : State :=
  let t : State := { s with turns := [], halted := false, resLow := false }
  { t with ie := t.ie && !irqAccepted t }

end Sys2Proof.Machine
end

