-- ==== Sys2Proof/Machine/Step.lean ====
section
/-! DEFINITION. Sys2Proof/Machine/Step.lean: one step of the machine. -/

namespace Sys2Proof.Machine

/-- The core's turn (60_exceptions.md R251): nothing while it is idle; else an interrupt entry if one is accepted
(R226, R227); else one whole instruction. -/
def coreStep (s : State) : Result :=
  if coreIdle s then .next s
  else if irqAccepted s then .next (acceptInterrupt s)
  else
    match fetch s with
    | some i => exec i s
    | none => .fault .reservedEncoding

/-- The turn of one agent. -/
def turnStep (t : Turn) (s : State) : Result :=
  match t with
  | .core => coreStep s
  | .timerTick => .next (timerTick s)
  | .soundNote => .next (soundNote s)
  | .soundPads a b => .next (soundPads a b s)
  | .pins ps pp => .next (setPins ps pp s)
  | .resLow => .next (resetNow s)
  | .resHigh => .next (releaseReset s)

/-- One step: the turn at the head of the list, or the core's turn when the list is empty. -/
def step (s : State) : Host.Outcome State Fault Refusal :=
  match s.turns with
  | [] => coreStep s
  | t :: ts => turnStep t { s with turns := ts }

/-- `s` with the instruction whose table bits are `w` stored where step fetches its next instruction, and the core free
to fetch it. ROM is the ROM_IMAGE of the chip: this stands for the program being loaded from outside
(notes/assumptions/3.md). -/
def State.withFetchWord (s : State) (nbits w : Nat) : State :=
  { readyToFetch s with rom := placeBytes s (tableBytes nbits w) }

end Sys2Proof.Machine
end

