-- ==== Sys2Proof/Machine/Pads.lean ====
section
/-! DEFINITION. Sys2Proof/Machine/Pads.lean: what the outside sees: the port A pads and the LCD segments, as functions of
the state (60_exceptions.md R243, R244; 20_memory.md R60). -/

namespace Sys2Proof.Machine

/-- The level of an output pad. -/
inductive PadLevel where
  | low
  | high
  | floating
deriving DecidableEq, Repr

/-- The pad of a latch bit (60_exceptions.md R244): an open drain leaves the pad floating at 1 (PRESUMED,
notes/assumptions/30.md). -/
def padOf (d : PadDrive) (latch : Bool) : PadLevel :=
  match d, latch with
  | _, false => .low
  | .cmos, true => .high
  | .openDrain, true => .floating

/-- Pad PA0 (60_exceptions.md R244). -/
def padPa0 (s : State) : PadLevel := padOf s.cfg.pa0Type (s.pa.getLsbD 0)

/-- Pad PA1 (60_exceptions.md R244). -/
def padPa1 (s : State) : PadLevel := padOf s.cfg.pa1Type (s.pa.getLsbD 1)

/-- Pad PA2 (60_exceptions.md R244). -/
def padPa2 (s : State) : PadLevel := padOf s.cfg.pa2Type (s.pa.getLsbD 2)

/-- The display cell of segment `k` and common `j`: FEH - 2k + (j div 4), or B0H + 2k + (j div 4) when LCD_SEG0_AT_FE is
false (20_memory.md R60, decision D27). -/
def lcdCell (c : Config) (k : Fin 40) (j : Fin 8) : RamAddr :=
  if c.lcdSeg0AtFe then BitVec.ofNat 8 (0xFE - 2 * k.val + j.val / 4)
  else BitVec.ofNat 8 (0xB0 + 2 * k.val + j.val / 4)

/-- The crossing of segment `k` and common `j` is on: bit j mod 4 of its cell, and never in HALT mode, where the display
is blank (20_memory.md R60, 60_exceptions.md R243). -/
def lcdOn (s : State) (k : Fin 40) (j : Fin 8) : Bool :=
  !s.halted && ((readCell s (lcdCell s.cfg k j)).getD 0x0#4).getLsbD (j.val % 4)

end Sys2Proof.Machine
end

