-- ==== Sys2Proof/Machine/Timing.lean ====
section
/-! DEFINITION. Sys2Proof/Machine/Timing.lean: the figures of 70_reset_and_hazards.md R272, R273, R275 and of
60_exceptions.md R241, R242. Timing only: no step of the machine depends on anything in this file
(notes/assumptions/28.md). -/

namespace Sys2Proof

/-- The machine cycles of an instruction (70_reset_and_hazards.md R273, column Cycle). The two undefined first bytes have
no figure. -/
def Instr.cycles : Instr → Option Nat
  | .addAAtR1R0 | .adcAAtR1R0 | .subAAtR1R0 | .sbcAAtR1R0 | .daa | .andAAtR1R0 | .orAAtR1R0 | .xorAAtR1R0
  | .andAtR1R0A | .orAtR1R0A | .xorAtR1R0A | .incA | .incR0 | .incR1 | .incR2 | .incR3 | .incR4 | .incAtR1R0
  | .incAtR3R2 | .decA | .decR0 | .decR1 | .decR2 | .decR3 | .decR4 | .decAtR1R0 | .decAtR3R2 | .movAR0
  | .movAR1 | .movAR2 | .movAR3 | .movAR4 | .movR0A | .movR1A | .movR2A | .movR3A | .movR4A | .movAAtR1R0
  | .movAAtR3R2 | .movAtR1R0A | .movAtR3R2A | .movAImm _ | .rlA | .rlcA | .rrA | .rrcA | .inAPs | .inAPp
  | .outPaA | .ret | .reti | .clc | .stc | .ei | .di | .nop | .timerOn | .timerOff | .movATmrl | .movATmrh
  | .movTmrlA | .movTmrhA | .soundA | .soundOne | .soundLoop | .soundOff => some 1
  | .addAImm _ | .subAImm _ | .andAImm _ | .orAImm _ | .xorAImm _ | .movR1R0Imm _ _ | .movR3R2Imm _ _
  | .movR4Imm _ | .jmp _ | .jc _ | .jnc _ | .jtmr _ | .jan _ _ | .jzA _ | .jnzA _ | .jnzR0 _ | .jnzR1 _
  | .jnzR4 _ | .call _ | .timerImm _ | .readR4A | .readMr0A | .readfR4A | .readfMr0A | .soundN _ | .halt => some 2
  | .undefined32H | .undefined35H => none

/-- The exponent of a divider stage (00_scope.md R7). -/
def TimerStage.exponent : TimerStage → Nat
  | .n0 => 0 | .n1 => 1 | .n2 => 2 | .n3 => 3 | .n4 => 4 | .n5 => 5 | .n7 => 7
  | .n8 => 8 | .n9 => 9 | .n10 => 10 | .n11 => 11 | .n12 => 12 | .n13 => 13

end Sys2Proof

namespace Sys2Proof.Machine

/-- Oscillator periods in one machine cycle, states T1 to T4 (R272). -/
def oscPeriodsPerCycle : Nat := 4

/-- Oscillator periods between two counts of the running timer: 2^TIMER_N (60_exceptions.md R241). -/
def oscPeriodsPerTick (c : Config) : Nat := 2 ^ c.timerN.exponent

/-- Oscillator periods from one overflow of a free-running timer to the next (R241: 256 x 2^n). -/
def oscPeriodsPerOverflow (c : Config) : Nat := 256 * oscPeriodsPerTick c

/-- Divider of the sound clock: fSYS / 2^SOUND_M (60_exceptions.md R242). -/
def soundClockDivider (c : Config) : Nat := 2 ^ c.soundM.val

/-- The duration of one machine cycle in nanoseconds: 4 / fSYS (R272). fSYS is in its range by its type (00_scope.md R7). -/
def machineCycleNs (c : Config) : Nat := oscPeriodsPerCycle * 1000000000 / c.fSysHz

/-- LCD frames per second: 8 common periods of 1 / fLCD (R275). -/
def lcdFrameHz (c : Config) : Nat := c.fLcdHz / 8

end Sys2Proof.Machine
end

