-- ==== Sys2Proof/WellFormed.lean ====
section
/-! DEFINITION. Sys2Proof/WellFormed.lean: which terms of Instr are instructions of the machine. The operands need no
check of their own: each has exactly the width of its field (30_encoding.md R82 to R85), a register number is part of the
constructor (R85), and a combination the chip lacks, such as JNZ R2, has no constructor. What remains are the two terms
for the first bytes that no instruction has (R89). -/

namespace Sys2Proof

/-- The instruction is one of the 92 rows that stand in the Instruction Set Summary (30_encoding.md R88, R89). -/
def Instr.wellFormed : Instr → Bool
  | .undefined32H => false
  | .undefined35H => false
  | _ => true

end Sys2Proof
end

