-- ==== Sys2Proof/Safety.lean ====
section
/-! DEFINITION. Sys2Proof/Safety.lean: the terms in which statements speak about runs: when an instruction completes,
what it stores to, which items it may write, the invariant of the machine, and what a claim of non-interference leaves
out. -/

namespace Sys2Proof

open Sys2Proof.Machine

/-- The data RAM cell an instruction accesses, if it accesses one (20_memory.md R56). -/
def Instr.cellAddr (i : Instr) (s : State) : Option RamAddr :=
  match i with
  | .addAAtR1R0 | .adcAAtR1R0 | .subAAtR1R0 | .sbcAAtR1R0 | .andAAtR1R0 | .orAAtR1R0 | .xorAAtR1R0 | .andAtR1R0A
  | .orAtR1R0A | .xorAtR1R0A | .incAtR1R0 | .decAtR1R0 | .movAAtR1R0 | .movAtR1R0A | .readR4A | .readMr0A | .readfR4A
  | .readfMr0A => some (pairR1R0 s)
  | .incAtR3R2 | .decAtR3R2 | .movAAtR3R2 | .movAtR3R2A => some (pairR3R2 s)
  | _ => none

/-- The data RAM cell an instruction stores to, if it stores (20_memory.md R56). Every store is one cell wide. -/
def Instr.storeAddr (i : Instr) (s : State) : Option RamAddr :=
  match i with
  | .andAtR1R0A | .orAtR1R0A | .xorAtR1R0A | .incAtR1R0 | .decAtR1R0 | .movAtR1R0A | .readMr0A | .readfMr0A =>
    some (pairR1R0 s)
  | .incAtR3R2 | .decAtR3R2 | .movAtR3R2A => some (pairR3R2 s)
  | _ => none

/-- The instruction is CALL. -/
def Instr.isCall : Instr → Bool
  | .call _ => true
  | _ => false

/-- The instruction writes C (10_state.md R23). -/
def Instr.writesCarry : Instr → Bool
  | .addAAtR1R0 | .adcAAtR1R0 | .subAAtR1R0 | .sbcAAtR1R0 | .addAImm _ | .subAImm _ | .daa | .rlA | .rlcA | .rrA | .rrcA
  | .reti | .clc | .stc => true
  | _ => false

/-- The instruction writes ACC (10_state.md R20). -/
def Instr.writesAcc : Instr → Bool
  | .addAAtR1R0 | .adcAAtR1R0 | .subAAtR1R0 | .sbcAAtR1R0 | .addAImm _ | .subAImm _ | .daa | .andAAtR1R0 | .orAAtR1R0
  | .xorAAtR1R0 | .andAImm _ | .orAImm _ | .xorAImm _ | .incA | .decA | .movAR0 | .movAR1 | .movAR2 | .movAR3 | .movAR4
  | .movAAtR1R0 | .movAAtR3R2 | .movAImm _ | .rlA | .rlcA | .rrA | .rrcA | .inAPs | .inAPp | .movATmrl | .movATmrh
  | .readR4A | .readMr0A | .readfR4A | .readfMr0A => true
  | _ => false

/-- The instruction writes the working register (10_state.md R21). -/
def Instr.writesReg (i : Instr) (r : Reg) : Bool :=
  match i, r with
  | .incR0, .r0 | .decR0, .r0 | .movR0A, .r0 | .movR1R0Imm _ _, .r0 => true
  | .incR1, .r1 | .decR1, .r1 | .movR1A, .r1 | .movR1R0Imm _ _, .r1 => true
  | .incR2, .r2 | .decR2, .r2 | .movR2A, .r2 | .movR3R2Imm _ _, .r2 => true
  | .incR3, .r3 | .decR3, .r3 | .movR3A, .r3 | .movR3R2Imm _ _, .r3 => true
  | .incR4, .r4 | .decR4, .r4 | .movR4A, .r4 | .movR4Imm _, .r4 | .readR4A, .r4 | .readfR4A, .r4 => true
  | _, _ => false

/-- The instruction assigns PC other than PC <- npc: the branches, CALL, RET and RETI (10_state.md R25). -/
def Instr.transfersControl : Instr → Bool
  | .jmp _ | .jc _ | .jnc _ | .jtmr _ | .jan _ _ | .jzA _ | .jnzA _ | .jnzR0 _ | .jnzR1 _ | .jnzR4 _ | .call _ | .ret
  | .reti => true
  | _ => false

/-- The instruction is one of the seven timer instructions (47_timer.md R185). -/
def Instr.isTimer : Instr → Bool
  | .timerImm _ | .timerOn | .timerOff | .movATmrl | .movATmrh | .movTmrlA | .movTmrhA => true
  | _ => false

/-- The instruction is one of the five sound instructions (49_sound_halt.md R205). -/
def Instr.isSound : Instr → Bool
  | .soundN _ | .soundA | .soundOne | .soundLoop | .soundOff => true
  | _ => false

/-- The instruction is one of the four table reads (48_tableread.md R201). -/
def Instr.isTableRead : Instr → Bool
  | .readR4A | .readMr0A | .readfR4A | .readfMr0A => true
  | _ => false

/-- The conditions, on the instruction and the state alone, under which an instruction has a next state: it is an
instruction, the cell it accesses exists (20_memory.md R55), and it is not CALL in an interrupt routine
(60_exceptions.md R234). -/
def completes (i : Instr) (s : State) : Bool :=
  i.wellFormed && (i.cellAddr s).all ramExists && !(i.isCall && s.ctx == .isr)

/-- The core moves in the next step, and this is the state it moves from: the list of turns is empty or begins with the
core's turn, which is taken off. -/
def coreTurn (s s' : State) : Prop :=
  (s.turns = [] ∧ s' = s) ∨ ∃ ts, s.turns = .core :: ts ∧ s' = { s with turns := ts }

/-- The items for which the reset tables give a value stand at it (10_state.md R42). -/
def atResetValues (s : State) : Bool :=
  s.pc == 0x000#12 && s.pa == 0b1111#4 && !s.ton && !s.tf && !s.ie && !s.extl && s.ctx == .main && !s.halted &&
    !s.sndOn && s.sndMode == .one && s.bz && s.bzBar

/-- The invariant of the machine: the memories are in canonical form, a chip held in reset stands at the reset values, and
the sound generator is at a note the selected sound has. -/
def MachineInv (s : State) : Prop :=
  Memory.wf s = true ∧ (s.resLow = true → atResetValues s = true) ∧ s.sndNote ≤ lastNote s.sndCh

/-- Apply a function to the next state of an outcome, and leave a stop as it is. -/
def mapNext (f : State → State) : Result → Result
  | .next s => .next (f s)
  | .fault r => .fault r
  | .refused r => .refused r

/-- The state with everything of the sound circuit blanked out: what a program can observe does not include it
(49_sound_halt.md R205). -/
def withoutSound (s : State) : State :=
  { s with sndCh := 0x0#4, sndOn := false, sndMode := .one, sndNote := 0, bz := true, bzBar := true }

/-- With `ram'` for its RAM list, the state reads `v` at address `a` and every other address as `s` does. -/
def ramUpdated (s : State) (ram' : List (Nat × Nibble)) (a : RamAddr) (v : Nibble) : Prop :=
  ∀ b, readCell { s with ram := ram' } b = if b = a then some v else readCell s b

/-- `i` is the instruction at PC: the decoder reads it at the head of the two bytes there. -/
def instructionAtPc (s : State) (i : Instr) : Prop :=
  ∃ rest, decode s.cfg.strictSecondByte [romRead s s.pc, romRead s (s.pc + 1#12)] = .ok (i, rest)

/-- The level on pin `k` of a port: the driven level, or high through a pull-high resistor, or the level the environment
happens to give (44_rotate_io.md R150). -/
def pinHigh (p : InputPort) (pull : Nibble) (k : Nat) : Bool :=
  if p.driven.getLsbD k then p.level.getLsbD k else pull.getLsbD k || p.level.getLsbD k

/-- Pin `k` of a port has its WAKE option and goes from high to low (60_exceptions.md R224, R246). -/
def pinFalls (old new : InputPort) (pull wake : Nibble) (k : Nat) : Prop :=
  wake.getLsbD k = true ∧ pinHigh old pull k = true ∧ pinHigh new pull k = false

/-- The ends of `n` notes of the sound generator. -/
def notes : Nat → State → State
  | 0, s => s
  | n + 1, s => notes n (soundNote s)

/-- `n` counts of the timer. -/
def ticks : Nat → State → State
  | 0, s => s
  | n + 1, s => ticks n (timerTick s)

end Sys2Proof
end

