-- ==== Sys2Proof/Certificates/Slice0/Obligations.lean ====
section
/-! DEFINITION. Sys2Proof/Certificates/Slice0/Obligations.lean: the statements. -/

open Sys2Proof Sys2Proof.Machine

/-- Words written out from the opcode map decode to the instructions they stand for. At least one word per family,
written bit by bit from its printed pattern, decodes to the instruction the map gives it. Bit order of addresses is
decision D2 (notes/assumptions/15.md). -/
def Obligations.DecodeReadsPrintedWords : Prop :=
  decode true [0b00001001#8] = .ok (.addAAtR1R0, []) ∧
    decode true [0b01000000#8, 0b00000101#8] = .ok (.addAImm 0x5#4, []) ∧
    decode true [0b00011110#8] = .ok (.xorAtR1R0A, []) ∧
    decode true [0b00011001#8] = .ok (.decR4, []) ∧
    decode true [0b00101001#8] = .ok (.movAR4, []) ∧
    decode true [0b01011010#8, 0b00000011#8] = .ok (.movR1R0Imm 0xA#4 0x3#4, []) ∧
    decode true [0b00000011#8] = .ok (.rlcA, []) ∧
    decode true [0b00110100#8] = .ok (.inAPp, []) ∧
    decode true [0b10011010#8, 0b10111100#8] = .ok (.jan 3#2 0x2BC#11, []) ∧
    decode true [0b11011111#8, 0b11111111#8] = .ok (.jnzR4 0x7FF#11, []) ∧
    decode true [0b11101010#8, 0b10111100#8] = .ok (.jmp 0xABC#12, []) ∧
    decode true [0b11111010#8, 0b10111100#8] = .ok (.call 0xABC#12, []) ∧
    decode true [0b00101010#8] = .ok (.clc, []) ∧
    decode true [0b01000111#8, 0b11111110#8] = .ok (.timerImm 0xFE#8, []) ∧
    decode true [0b01001110#8] = .ok (.readMr0A, []) ∧
    decode true [0b01000101#8, 0b00001100#8] = .ok (.soundN 0xC#4, []) ∧
    decode true [0b00110111#8, 0b00111110#8] = .ok (.halt, []) ∧
    decode true [0b00110010#8] = .ok (.undefined32H, [])

/-- Decoding the bytes of any instruction gives the instruction and leaves the rest of the list. For every term of
Instr, with every operand at every value, for both values of STRICT_SECOND_BYTE and for every list that follows,
decode of the encoded bytes is the instruction and that list: no bit of an encoding is dropped. -/
def Obligations.DecodeInvertsEncode : Prop :=
  ∀ (strict : Bool) (i : Instr) (rest : List Byte), decode strict (encode i ++ rest) = .ok (i, rest)

/-- Under STRICT_SECOND_BYTE every byte sequence that decodes is the encoding of what it decodes to. If strict decoding
of a list answers an instruction and a rest, the list is the encoding of that instruction followed by the rest: each
instruction has one encoding (30_encoding.md R86, R90). -/
def Obligations.EncodeInvertsStrictDecode : Prop :=
  ∀ (bytes : List Byte) (i : Instr) (rest : List Byte),
    decode true bytes = .ok (i, rest) → encode i ++ rest = bytes

/-- The first byte alone decides the length: two bytes exactly for 37H, 40H..47H, 50H..6FH, 80H..FFH. Whatever an
instruction is decoded from, its length is 2 if the first byte is 37H, 40H..47H, 50H..6FH or 80H..FFH, and 1
otherwise; decoding takes that many bytes; every first byte of the other kind decodes whatever follows; and the
table reads are 1 byte but 2 cycles (R80). That 32H and 35H have length 1 is R89, decision D5
(notes/assumptions/26.md). -/
def Obligations.FirstByteFixesLength : Prop :=
  (∀ (strict : Bool) (b1 : Byte) (tail : List Byte) (i : Instr) (rest : List Byte),
      decode strict (b1 :: tail) = .ok (i, rest) →
        (i.length = if b1.toNat = 0x37 ∨ (0x40 ≤ b1.toNat ∧ b1.toNat ≤ 0x47) ∨
          (0x50 ≤ b1.toNat ∧ b1.toNat ≤ 0x6F) ∨ 0x80 ≤ b1.toNat then 2 else 1) ∧
        rest.length + i.length = (b1 :: tail).length) ∧
    (∀ (strict : Bool) (b1 : Byte) (tail : List Byte),
      ¬(b1.toNat = 0x37 ∨ (0x40 ≤ b1.toNat ∧ b1.toNat ≤ 0x47) ∨ (0x50 ≤ b1.toNat ∧ b1.toNat ≤ 0x6F) ∨
        0x80 ≤ b1.toNat) → ∃ i, decode strict (b1 :: tail) = .ok (i, tail)) ∧
    ∀ i : Instr, i.isTableRead = true → i.length = 1 ∧ i.cycles = some 2

/-- All 256 first bytes decode, 254 of them to instructions; 32H and 35H to the two undefined terms. With a suitable
second byte every first byte decodes, and what it decodes to is an instruction of the summary unless the byte is 32H
or 35H. That these two are undefined is decision D5 (notes/assumptions/26.md). -/
def Obligations.FirstByteMapTotal : Prop :=
  ∀ b1 : Byte, ∃ (b2 : Byte) (i : Instr), decodePair true b1 b2 = some i ∧
    (i.wellFormed = false ↔ b1 = 0x32#8 ∨ b1 = 0x35#8)

/-- Strict decoding rejects exactly the second bytes outside the printed patterns; lenient decoding rejects nothing. The
rule is decision D6 of the spec (notes/assumptions/6.md). Strict: rejected exactly when the first byte is 40H..46H
or 50H..6FH and the high nibble of the second byte is not 0, or the first byte is 37H and the second is not 3EH.
Lenient: never. -/
def Obligations.ReservedSecondBytes : Prop :=
  ∀ b1 b2 : Byte,
    (decodePair true b1 b2 = none ↔
      (((0x40#8 ≤ b1 ∧ b1 ≤ 0x46#8) ∨ (0x50#8 ≤ b1 ∧ b1 ≤ 0x6F#8)) ∧ highNibble b2 ≠ 0x0#4) ∨
        (b1 = 0x37#8 ∧ b2 ≠ 0x3E#8)) ∧
    decodePair false b1 b2 ≠ none

/-- At the core's turn, with no interrupt accepted, step runs the instruction at PC. If it is the core's turn, the chip
is not in HALT mode or reset and no interrupt is accepted: where the bytes at PC (the second at PC + 1 modulo 4096
of the bank) decode to i, step is exec of i on that state; where they hold a reserved second byte, step faults with
reservedEncoding. The wrap is decision D3, the reserved byte D6, the turns are the model's (notes/assumptions/6.md,
8.md, 16.md). -/
def Obligations.StepRunsDecodedInstruction : Prop :=
  ∀ (s s' : State), coreTurn s s' → s'.halted = false → s'.resLow = false → irqAccepted s' = false →
    (∀ i, instructionAtPc s' i → step s = exec i s') ∧
    (decode s'.cfg.strictSecondByte [romRead s' s'.pc, romRead s' (s'.pc + 1#12)] = .error .reservedEncoding →
      step s = .fault .reservedEncoding)

/-- A word placed with withFetchWord is the instruction the next step runs, from any state. From every state, if the
table bits w decode to i then one step of the state with w placed at the fetch address is exec of i on it. The
placing changes ROM at the two bytes at PC and PC + 1 of the bank alone, and of the rest only what would keep the
core from fetching. The placing is the model's (notes/assumptions/3.md, 27.md). -/
def Obligations.PlacedWordRuns : Prop :=
  ∀ (s : State) (nbits w : Nat),
    (∀ i, decodeTableWord nbits w = some i →
      step (s.withFetchWord nbits w) = exec i (s.withFetchWord nbits w)) ∧
    ∃ rom' ie', s.withFetchWord nbits w =
      { s with rom := rom', ie := ie', turns := [], halted := false, resLow := false } ∧
      (∀ a : RomAddr, romByte rom' a =
        if a = bank s ++ (s.pc + 1#12) then (tableBytes nbits w).2
        else if a = bank s ++ s.pc then (tableBytes nbits w).1
        else romByte s.rom a) ∧
      (irqAccepted { s with halted := false } = false → ie' = s.ie)

/-- State.reset and a reset by RES leave every item the reset table lists at its value. PC = 000H, PA = 1111b, TON, TF,
IE, SND_ON = 0, SND_MODE = ONE, the BZ pads high (R42, R261); HALTED = 0, EXTL = 0, CTX = MAIN are decisions D14,
D32 (notes/assumptions/12.md and 13.md). The second half is the model's reading of RES as turns
(notes/assumptions/10.md, DEDUCED): RES low gives the same in the next step from any state, whatever was running
(D30); no written RAM cell is left, so RAM is free again (D23, 2.md); ROM and the mask options stay (3.md, 4.md);
and the core idles until RES is high (9.md). -/
def Obligations.ResetLeavesTableValues : Prop :=
  atResetValues State.reset = true ∧
    ∀ (s : State) (ts : List Turn), s.turns = .resLow :: ts →
      ∃ t, step s = .next t ∧ atResetValues t = true ∧ t.resLow = true ∧ t.turns = ts ∧ t.rom = s.rom ∧
        t.cfg = s.cfg ∧ coreStep t = .next t ∧ t.ram = []

/-- After reset the first instruction is fetched from ROM address 1000H. When RES goes high, the core's next turn runs
the instruction whose first byte is ROM_IMAGE[1000H] and whose second, if it has one, is ROM_IMAGE[1001H] (R263):
from every state held in reset that meets the invariant, whatever turns passed while RES was low, and right after
RES low from any state. The turns are the model's (notes/assumptions/8.md, 10.md). -/
def Obligations.ExecutionStartsAtBankOne : Prop :=
  (∀ (s : State) (ts : List Turn) (i : Instr), MachineInv s → s.resLow = true → s.turns = .resHigh :: ts →
      (∃ rest, decode s.cfg.strictSecondByte [romByte s.rom 0x1000#13, romByte s.rom 0x1001#13] = .ok (i, rest)) →
      ∃ t, step s = .next t ∧ t = { s with turns := ts, resLow := false } ∧ coreStep t = exec i t) ∧
    ∀ (s u t : State) (ts : List Turn) (i : Instr), s.turns = .resLow :: .resHigh :: ts →
      step s = .next u → step u = .next t →
      (∃ rest, decode s.cfg.strictSecondByte [romByte s.rom 0x1000#13, romByte s.rom 0x1001#13] = .ok (i, rest)) →
      t.turns = ts ∧ coreStep t = exec i t

/-- The reset state meets the invariant and stands at the reset values. State.reset has both memories in canonical form,
stands at the reset values and has its sound generator at a note the sound has. The forms and the note are the
model's, and EXTL, CTX and HALTED at reset are decisions D14 and D32 (notes/assumptions/2.md, 3.md, 12.md, 13.md,
23.md). -/
def Obligations.InvAtReset : Prop :=
  MachineInv State.reset ∧ atResetValues State.reset = true

/-- Every step of every agent keeps the invariant. For every state that meets MachineInv, if step answers a next state,
that state meets it too: RAM holds only cells that exist, both memories stay canonical, a chip held in reset stays
at the reset values, and the sound generator stays at a note of the selected sound. -/
def Obligations.StepKeepsInv : Prop :=
  ∀ s t : State, MachineInv s → step s = .next t → MachineInv t

/-- An instruction has a next state exactly when its cell exists, it is no CALL in a routine, and it is defined. For
every instruction and state, exec answers a next state if and only if the instruction is one of the 92 of the
summary, the data RAM cell it accesses (if it accesses one) is outside A0H..AFH, and it is not CALL with CTX = ISR.
The three stops are decisions D5, D7, D21 (notes/assumptions/17.md, 26.md). -/
def Obligations.CompletesExactlyWhenSafe : Prop :=
  ∀ (i : Instr) (s : State), (∃ t, exec i s = .next t) ↔ completes i s = true

/-- Nothing is refused, and each fault has its one cause. exec never refuses. It faults with undefinedOpcode only for
the two undefined terms, with undefinedRam only when the cell the instruction accesses does not exist, with
callInIsr only for CALL with CTX = ISR (decisions D5, D7, D21; notes/assumptions/17.md, 26.md). -/
def Obligations.StopsAreTheNamedFaults : Prop :=
  ∀ (i : Instr) (s : State), (∀ r, exec i s ≠ .refused r) ∧
    ∀ r, exec i s = .fault r →
      (r = .undefinedOpcode ∧ i.wellFormed = false) ∨
      (r = .undefinedRam ∧ ∃ a, i.cellAddr s = some a ∧ ramExists a = false) ∨
      (r = .callInIsr ∧ i.isCall = true ∧ s.ctx = .isr)

/-- Any instruction that accesses data RAM at A0H..AFH faults with undefinedRam. Decision D7 (notes/assumptions/26.md):
for every instruction and state, if the cell it accesses has an address in A0H..AFH, exec faults with undefinedRam:
no value, no dropped write, no alias. -/
def Obligations.UndefinedAreaFaults : Prop :=
  ∀ (i : Instr) (s : State) (a : RamAddr), i.cellAddr s = some a → 0xA0 ≤ a.toNat → a.toNat ≤ 0xAF →
    exec i s = .fault .undefinedRam

/-- The two undefined first bytes stop with undefinedOpcode. Decision D5 (notes/assumptions/26.md): exec of the terms
for 32H and 35H faults with undefinedOpcode in every state. -/
def Obligations.UndefinedFirstBytesFault : Prop :=
  ∀ s : State, exec .undefined32H s = .fault .undefinedOpcode ∧ exec .undefined35H s = .fault .undefinedOpcode

/-- Every cell but the one an instruction stores to reads as before; a form that stores nothing changes no cell. For
every instruction, if exec answers a next state then every address other than the one stored to (R1,R0 or R3,R2,
computed as the meaning computes it) reads as before, and for an instruction that stores nothing every address does. -/
def Obligations.RamChangesOnlyWhereStored : Prop :=
  ∀ (i : Instr) (s t : State), exec i s = .next t →
    ∀ b, i.storeAddr s ≠ some b → readCell t b = readCell s b

/-- ACC, each working register and C change only by the instructions that write them. For every instruction, if exec
answers a next state, ACC is unchanged unless the instruction is one of the writers of R20, R[n] unless it is one of
the writers of R[n] in R21, and C unless it is one of the writers of R23. -/
def Obligations.RegisterAndCarryFrame : Prop :=
  ∀ (i : Instr) (s t : State), exec i s = .next t →
    (i.writesAcc = false → t.acc = s.acc) ∧ (∀ r, i.writesReg r = false → getReg t r = getReg s r) ∧
    (i.writesCarry = false → t.c = s.c)

/-- Each control item changes only by its own instructions. If exec answers a next state: PA is unchanged unless OUT
PA,A; S unless CALL; SC always; TMR and TON unless a timer instruction; TF unless JTMR; IE unless EI or DI; EXTL
always; CTX unless CALL, RET or RETI; HALTED unless HALT; the sound state unless a sound instruction (R26, R27, R29
to R36). Choices of the spec or the model in it: RETI keeps IE and the contexts (D10, D11, notes/assumptions/13.md),
EXTL (D14, 12.md), CALL keeps SC (D20, 17.md), timer instructions keep TF (D18, 19.md), the note number (23.md). -/
def Obligations.ControlStateFrame : Prop :=
  ∀ (i : Instr) (s t : State), exec i s = .next t →
    (i ≠ .outPaA → t.pa = s.pa) ∧
    (i.isCall = false → t.stackPc = s.stackPc) ∧ t.stackC = s.stackC ∧
    (i.isTimer = false → t.tmr = s.tmr ∧ t.ton = s.ton) ∧
    ((∀ a, i ≠ .jtmr a) → t.tf = s.tf) ∧
    (i ≠ .ei → i ≠ .di → t.ie = s.ie) ∧
    t.extl = s.extl ∧
    (i.isCall = false → i ≠ .ret → i ≠ .reti → t.ctx = s.ctx) ∧
    (i ≠ .halt → t.halted = s.halted) ∧
    (i.isSound = false → t.sndCh = s.sndCh ∧ t.sndOn = s.sndOn ∧ t.sndMode = s.sndMode ∧ t.sndNote = s.sndNote)

/-- No instruction changes ROM, the configuration, the pins, RES, the BZ pads or the model's own fields. If exec answers
a next state then the ROM image, the mask options and parameters, the input pins, RES, the pads BZ, and the model's
turns and counters are unchanged. ROM, the options and the pins are R39, R40, R44, R67. That no instruction moves
the pads BZ, which move only by a turn soundPads, is the model's choice (notes/assumptions/29.md), as are its own
fields (2.md, 7.md, 8.md) and RES as turns (10.md). -/
def Obligations.NoInstructionTouchesTheOutside : Prop :=
  ∀ (i : Instr) (s t : State), exec i s = .next t →
    t.rom = s.rom ∧ t.cfg = s.cfg ∧ t.ps = s.ps ∧ t.pp = s.pp ∧ t.resLow = s.resLow ∧ t.bz = s.bz ∧
    t.bzBar = s.bzBar ∧ t.turns = s.turns ∧ t.draws = s.draws ∧ t.resets = s.resets

/-- Every instruction but the branches, CALL, RET and RETI ends with PC past its bytes. If exec answers a next state for
an instruction that is no branch, CALL or return, PC is the old PC plus the length, modulo 4096 (the wrap is
decision D3, notes/assumptions/16.md). -/
def Obligations.StraightLineAdvancesPc : Prop :=
  ∀ (i : Instr) (s t : State), exec i s = .next t → i.transfersControl = false →
    t.pc.toNat = (s.pc.toNat + i.length) % 4096

/-- A step does not depend on the ROM bytes of the bank that PA3 does not select. For every state and every other ROM
image that has the same bytes in the selected bank, the step from the state with that image has the same outcome,
with the image in place of the first: no fetch and no table read reaches the other bank (R51, R266). -/
def Obligations.OtherBankIsUnreachable : Prop :=
  ∀ (s : State) (rom' : List Host.Cell),
    (∀ p : PcWord, romByte rom' (bank s ++ p) = romByte s.rom (bank s ++ p)) →
    step { s with rom := rom' } = mapNext (fun t => { t with rom := rom' }) (step s)

/-- Nothing of the sound circuit can influence anything else. From every state, the step and the step of the state with
the sound state and BZ pads blanked out end in states that agree on everything else: no instruction reads the sound
circuit back (R205). -/
def Obligations.SoundIsUnobservable : Prop :=
  ∀ s : State, mapNext withoutSound (step (withoutSound s)) = mapNext withoutSound (step s)

/-- ADD, ADC, SUB and SBC with [R1R0]: result, carry and nothing else. With m the cell at R1,R0: ADD and ADC give the
sum (with C) modulo 16 and C = 1 if it exceeds 15; SUB gives ACC - m and C = 1 if ACC >= m; SBC subtracts one more
when C = 0 and sets C when there is no borrow. The rest of the state is as before. The meaning of C is decision D4
(PRESUMED, notes/assumptions/14.md). -/
def Obligations.ArithmeticWithMemoryResult : Prop :=
  ∀ (s : State) (m : Nibble), readCell s (s.r1 ++ s.r0) = some m →
    exec .addAAtR1R0 s = .next { s with
      acc := s.acc + m, c := decide (16 ≤ s.acc.toNat + m.toNat), pc := s.pc + 1#12 } ∧
    exec .adcAAtR1R0 s = .next { s with
      acc := s.acc + m + (if s.c then 1#4 else 0#4)
      c := decide (16 ≤ s.acc.toNat + m.toNat + (if s.c then 1 else 0)), pc := s.pc + 1#12 } ∧
    exec .subAAtR1R0 s = .next { s with
      acc := s.acc - m, c := decide (m.toNat ≤ s.acc.toNat), pc := s.pc + 1#12 } ∧
    exec .sbcAAtR1R0 s = .next { s with
      acc := s.acc - m - (if s.c then 0#4 else 1#4)
      c := decide (m.toNat + (if s.c then 0 else 1) ≤ s.acc.toNat), pc := s.pc + 1#12 }

/-- ADD A,XH and SUB A,XH: result, carry and nothing else. ADD gives the sum modulo 16 and C = 1 if it exceeds 15; SUB
gives ACC - XH and C = 1 if ACC >= XH; PC advances by 2 and the rest is as before. The meaning of C is decision D4
(PRESUMED, notes/assumptions/14.md). -/
def Obligations.ArithmeticWithImmediateResult : Prop :=
  ∀ (s : State) (x : Nibble),
    exec (.addAImm x) s = .next { s with
      acc := s.acc + x, c := decide (16 ≤ s.acc.toNat + x.toNat), pc := s.pc + 2#12 } ∧
    exec (.subAImm x) s = .next { s with
      acc := s.acc - x, c := decide (x.toNat ≤ s.acc.toNat), pc := s.pc + 2#12 }

/-- DAA: ACC + 6 and C = 1 if ACC > 9 or C = 1, else nothing but PC. The source's formula (R107): if ACC is greater than
9 or C is 1 then ACC becomes ACC + 6 modulo 16 and C becomes 1, else both stay; PC advances by 1. The rule's fault
for an unwritten C is not in the model (notes/assumptions/1.md). -/
def Obligations.DecimalAdjustResult : Prop :=
  ∀ s : State,
    exec .daa s = .next { s with
      acc := if 9 < s.acc.toNat ∨ s.c = true then s.acc + 0x6#4 else s.acc
      c := decide (9 < s.acc.toNat ∨ s.c = true), pc := s.pc + 1#12 }

/-- ADC followed by DAA adds two BCD digits and a decimal carry. If ACC and the cell at R1,R0 are digits 0 to 9, ADC
then DAA leave in ACC and C the decimal digits of their sum with C: 10 times C plus ACC is the sum. Rests on
decision D4 (notes/assumptions/14.md). -/
def Obligations.BcdAdditionIsDecimal : Prop :=
  ∀ (s t u : State) (m : Nibble), readCell s (s.r1 ++ s.r0) = some m → m.toNat ≤ 9 → s.acc.toNat ≤ 9 →
    exec .adcAAtR1R0 s = .next t → exec .daa t = .next u →
    10 * u.c.toNat + u.acc.toNat = s.acc.toNat + m.toNat + s.c.toNat ∧ u.acc.toNat ≤ 9

/-- AND, OR, XOR into ACC, from [R1R0] and from an immediate. ACC becomes the bitwise operation of ACC and the operand;
the cell, C and all else but PC are as before (R110 to R113, R117 to R119). -/
def Obligations.LogicToAccumulatorResult : Prop :=
  (∀ (s : State) (m : Nibble), readCell s (s.r1 ++ s.r0) = some m →
      exec .andAAtR1R0 s = .next { s with acc := s.acc &&& m, pc := s.pc + 1#12 } ∧
      exec .orAAtR1R0 s = .next { s with acc := s.acc ||| m, pc := s.pc + 1#12 } ∧
      exec .xorAAtR1R0 s = .next { s with acc := s.acc ^^^ m, pc := s.pc + 1#12 }) ∧
    ∀ (s : State) (x : Nibble),
      exec (.andAImm x) s = .next { s with acc := s.acc &&& x, pc := s.pc + 2#12 } ∧
      exec (.orAImm x) s = .next { s with acc := s.acc ||| x, pc := s.pc + 2#12 } ∧
      exec (.xorAImm x) s = .next { s with acc := s.acc ^^^ x, pc := s.pc + 2#12 }

/-- AND, OR, XOR into [R1R0]: the one cell changes, ACC and C do not. The cell at R1,R0 becomes the bitwise operation of
its value and ACC; every other cell reads as before; all else but PC is as before (R110, R114 to R116). -/
def Obligations.LogicToMemoryResult : Prop :=
  ∀ (s : State) (m : Nibble), readCell s (s.r1 ++ s.r0) = some m →
    (∃ ram', exec .andAtR1R0A s = .next { s with ram := ram', pc := s.pc + 1#12 } ∧
      ramUpdated s ram' (s.r1 ++ s.r0) (m &&& s.acc)) ∧
    (∃ ram', exec .orAtR1R0A s = .next { s with ram := ram', pc := s.pc + 1#12 } ∧
      ramUpdated s ram' (s.r1 ++ s.r0) (m ||| s.acc)) ∧
    (∃ ram', exec .xorAtR1R0A s = .next { s with ram := ram', pc := s.pc + 1#12 } ∧
      ramUpdated s ram' (s.r1 ++ s.r0) (m ^^^ s.acc))

/-- INC A and DEC A: bytes 31H and 3FH, ACC plus or minus 1 modulo 16, C untouched. The byte 31H decodes to INC A and
3FH to DEC A, whatever follows. INC A sets ACC to (ACC + 1) mod 16 and DEC A to (ACC + 15) mod 16, in every state;
PC advances by 1 and nothing else changes. -/
def Obligations.AccumulatorIncDecResult : Prop :=
  (∀ (strict : Bool) (rest : List Byte), decode strict (0x31#8 :: rest) = .ok (.incA, rest) ∧
      decode strict (0x3F#8 :: rest) = .ok (.decA, rest)) ∧
    ∀ s : State,
      exec .incA s = .next { s with acc := BitVec.ofNat 4 ((s.acc.toNat + 1) % 16), pc := s.pc + 1#12 } ∧
      exec .decA s = .next { s with acc := BitVec.ofNat 4 ((s.acc.toNat + 15) % 16), pc := s.pc + 1#12 }

/-- INC Rn and DEC Rn for R0 to R4: bytes 10H to 19H, plus or minus 1 modulo 16, no other register. The bytes 10H, 12H,
14H, 16H, 18H decode to INC R0..R4 and 11H, 13H, 15H, 17H, 19H to DEC R0..R4; the patterns 0001nnn0 with nnn = 5, 6,
7 are other instructions. Each sets its register to (R + 1) mod 16 or (R + 15) mod 16, in every state, advances PC
by 1 and changes nothing else. -/
def Obligations.RegisterIncDecResult : Prop :=
  (∀ (strict : Bool) (rest : List Byte),
      decode strict (0x10#8 :: rest) = .ok (.incR0, rest) ∧
      decode strict (0x11#8 :: rest) = .ok (.decR0, rest) ∧
      decode strict (0x12#8 :: rest) = .ok (.incR1, rest) ∧
      decode strict (0x13#8 :: rest) = .ok (.decR1, rest) ∧
      decode strict (0x14#8 :: rest) = .ok (.incR2, rest) ∧
      decode strict (0x15#8 :: rest) = .ok (.decR2, rest) ∧
      decode strict (0x16#8 :: rest) = .ok (.incR3, rest) ∧
      decode strict (0x17#8 :: rest) = .ok (.decR3, rest) ∧
      decode strict (0x18#8 :: rest) = .ok (.incR4, rest) ∧
      decode strict (0x19#8 :: rest) = .ok (.decR4, rest) ∧
      decode strict (0x1A#8 :: rest) = .ok (.andAAtR1R0, rest) ∧
      decode strict (0x1C#8 :: rest) = .ok (.orAAtR1R0, rest) ∧
      decode strict (0x1E#8 :: rest) = .ok (.xorAtR1R0A, rest)) ∧
    ∀ s : State,
      exec .incR0 s = .next { s with r0 := BitVec.ofNat 4 ((s.r0.toNat + 1) % 16), pc := s.pc + 1#12 } ∧
      exec .decR0 s = .next { s with r0 := BitVec.ofNat 4 ((s.r0.toNat + 15) % 16), pc := s.pc + 1#12 } ∧
      exec .incR1 s = .next { s with r1 := BitVec.ofNat 4 ((s.r1.toNat + 1) % 16), pc := s.pc + 1#12 } ∧
      exec .decR1 s = .next { s with r1 := BitVec.ofNat 4 ((s.r1.toNat + 15) % 16), pc := s.pc + 1#12 } ∧
      exec .incR2 s = .next { s with r2 := BitVec.ofNat 4 ((s.r2.toNat + 1) % 16), pc := s.pc + 1#12 } ∧
      exec .decR2 s = .next { s with r2 := BitVec.ofNat 4 ((s.r2.toNat + 15) % 16), pc := s.pc + 1#12 } ∧
      exec .incR3 s = .next { s with r3 := BitVec.ofNat 4 ((s.r3.toNat + 1) % 16), pc := s.pc + 1#12 } ∧
      exec .decR3 s = .next { s with r3 := BitVec.ofNat 4 ((s.r3.toNat + 15) % 16), pc := s.pc + 1#12 } ∧
      exec .incR4 s = .next { s with r4 := BitVec.ofNat 4 ((s.r4.toNat + 1) % 16), pc := s.pc + 1#12 } ∧
      exec .decR4 s = .next { s with r4 := BitVec.ofNat 4 ((s.r4.toNat + 15) % 16), pc := s.pc + 1#12 }

/-- INC and DEC of [R1R0] and [R3R2]: the one cell plus or minus 1 modulo 16. The addressed cell becomes its value plus
or minus 1 modulo 16, every other cell reads as before, and nothing else but PC changes (R123, R124, R127, R128). -/
def Obligations.MemoryIncDecResult : Prop :=
  (∀ (s : State) (m : Nibble), readCell s (s.r1 ++ s.r0) = some m →
      ∃ ram', exec .incAtR1R0 s = .next { s with ram := ram', pc := s.pc + 1#12 } ∧
        ramUpdated s ram' (s.r1 ++ s.r0) (BitVec.ofNat 4 ((m.toNat + 1) % 16))) ∧
    (∀ (s : State) (m : Nibble), readCell s (s.r1 ++ s.r0) = some m →
      ∃ ram', exec .decAtR1R0 s = .next { s with ram := ram', pc := s.pc + 1#12 } ∧
        ramUpdated s ram' (s.r1 ++ s.r0) (BitVec.ofNat 4 ((m.toNat + 15) % 16))) ∧
    (∀ (s : State) (m : Nibble), readCell s (s.r3 ++ s.r2) = some m →
      ∃ ram', exec .incAtR3R2 s = .next { s with ram := ram', pc := s.pc + 1#12 } ∧
        ramUpdated s ram' (s.r3 ++ s.r2) (BitVec.ofNat 4 ((m.toNat + 1) % 16))) ∧
    (∀ (s : State) (m : Nibble), readCell s (s.r3 ++ s.r2) = some m →
      ∃ ram', exec .decAtR3R2 s = .next { s with ram := ram', pc := s.pc + 1#12 } ∧
        ramUpdated s ram' (s.r3 ++ s.r2) (BitVec.ofNat 4 ((m.toNat + 15) % 16)))

/-- MOV A,Rn and MOV Rn,A for R0 to R4. MOV A,Rn copies R[n] to ACC and MOV Rn,A copies ACC to R[n]; nothing else but PC
changes (R130 to R132). -/
def Obligations.RegisterMoveResult : Prop :=
  ∀ s : State,
    exec .movAR0 s = .next { s with acc := s.r0, pc := s.pc + 1#12 } ∧
    exec .movR0A s = .next { s with r0 := s.acc, pc := s.pc + 1#12 } ∧
    exec .movAR1 s = .next { s with acc := s.r1, pc := s.pc + 1#12 } ∧
    exec .movR1A s = .next { s with r1 := s.acc, pc := s.pc + 1#12 } ∧
    exec .movAR2 s = .next { s with acc := s.r2, pc := s.pc + 1#12 } ∧
    exec .movR2A s = .next { s with r2 := s.acc, pc := s.pc + 1#12 } ∧
    exec .movAR3 s = .next { s with acc := s.r3, pc := s.pc + 1#12 } ∧
    exec .movR3A s = .next { s with r3 := s.acc, pc := s.pc + 1#12 } ∧
    exec .movAR4 s = .next { s with acc := s.r4, pc := s.pc + 1#12 } ∧
    exec .movR4A s = .next { s with r4 := s.acc, pc := s.pc + 1#12 }

/-- MOV between ACC and [R1R0] or [R3R2]. A load copies the addressed cell to ACC. A store puts ACC into the addressed
cell, if it exists, and every other cell reads as before. Nothing else but PC changes (R130, R133 to R136, R141). -/
def Obligations.LoadStoreResult : Prop :=
  (∀ (s : State) (m : Nibble), readCell s (s.r1 ++ s.r0) = some m →
      exec .movAAtR1R0 s = .next { s with acc := m, pc := s.pc + 1#12 }) ∧
    (∀ (s : State) (m : Nibble), readCell s (s.r3 ++ s.r2) = some m →
      exec .movAAtR3R2 s = .next { s with acc := m, pc := s.pc + 1#12 }) ∧
    (∀ s : State, ramExists (s.r1 ++ s.r0) = true →
      ∃ ram', exec .movAtR1R0A s = .next { s with ram := ram', pc := s.pc + 1#12 } ∧
        ramUpdated s ram' (s.r1 ++ s.r0) s.acc) ∧
    ∀ s : State, ramExists (s.r3 ++ s.r2) = true →
      ∃ ram', exec .movAtR3R2A s = .next { s with ram := ram', pc := s.pc + 1#12 } ∧
        ramUpdated s ram' (s.r3 ++ s.r2) s.acc

/-- MOV A,XH: the bytes 70H..7FH load their low nibble into ACC; no other instruction has one byte and an immediate.
Every byte 70H..7FH decodes to MOV A,XH with XH its low nibble, whatever follows; it sets ACC to XH in every state,
advances PC by 1 and changes nothing else. It is the only one-byte instruction with an immediate: every other
instruction of one byte is one of the constructors listed, none of which has an operand. -/
def Obligations.AccumulatorImmediateResult : Prop :=
  (∀ (strict : Bool) (b : Byte) (rest : List Byte), 0x70 ≤ b.toNat → b.toNat ≤ 0x7F →
      decode strict (b :: rest) = .ok (.movAImm (b.extractLsb' 0 4), rest)) ∧
    (∀ (s : State) (x : Nibble), exec (.movAImm x) s = .next { s with acc := x, pc := s.pc + 1#12 }) ∧
    ∀ i : Instr, i.wellFormed = true → i.length = 1 → (∃ x, i = .movAImm x) ∨ i ∈ [
        .addAAtR1R0, .adcAAtR1R0, .subAAtR1R0, .sbcAAtR1R0, .daa, .andAAtR1R0, .orAAtR1R0, .xorAAtR1R0,
        .andAtR1R0A, .orAtR1R0A, .xorAtR1R0A, .incA, .incR0, .incR1, .incR2, .incR3, .incR4, .incAtR1R0,
        .incAtR3R2, .decA, .decR0, .decR1, .decR2, .decR3, .decR4, .decAtR1R0, .decAtR3R2, .movAR0,
        .movAR1, .movAR2, .movAR3, .movAR4, .movR0A, .movR1A, .movR2A, .movR3A, .movR4A, .movAAtR1R0,
        .movAAtR3R2, .movAtR1R0A, .movAtR3R2A, .rlA, .rlcA, .rrA, .rrcA, .inAPs, .inAPp, .outPaA, .ret,
        .reti, .clc, .stc, .ei, .di, .nop, .timerOn, .timerOff, .movATmrl, .movATmrh, .movTmrlA,
        .movTmrhA, .readR4A, .readMr0A, .readfR4A, .readfMr0A, .soundA, .soundOne, .soundLoop, .soundOff]

/-- MOV R1R0,XXH, MOV R3R2,XXH under both values of PAIR_IMM_ORDER, and MOV R4,XH. Under low_first the nibble of the
first byte goes to R0 or R2 and that of the second to R1 or R3; under high_first the reverse. PAIR_IMM_ORDER is open
(decision D1, notes/assumptions/5.md). MOV R4,XH loads R4. Nothing else but PC changes. -/
def Obligations.RegisterImmediateResult : Prop :=
  ∀ (s : State) (x y : Nibble),
    (s.cfg.pairImmOrder = .lowFirst →
      exec (.movR1R0Imm x y) s = .next { s with r1 := y, r0 := x, pc := s.pc + 2#12 } ∧
      exec (.movR3R2Imm x y) s = .next { s with r3 := y, r2 := x, pc := s.pc + 2#12 }) ∧
    (s.cfg.pairImmOrder = .highFirst →
      exec (.movR1R0Imm x y) s = .next { s with r1 := x, r0 := y, pc := s.pc + 2#12 } ∧
      exec (.movR3R2Imm x y) s = .next { s with r3 := x, r2 := y, pc := s.pc + 2#12 }) ∧
    exec (.movR4Imm x) s = .next { s with r4 := x, pc := s.pc + 2#12 }

/-- RL A and RR A: bytes 01H and 00H, the rotated ACC, C the bit that went round. The byte 01H decodes to RL A and 00H
to RR A. RL A sets ACC to bits 2, 1, 0, 3 and C to the old bit 3; RR A sets ACC to bits 0, 3, 2, 1 and C to the old
bit 0; in every state, PC advances by 1 and nothing else changes. -/
def Obligations.RotateResult : Prop :=
  (∀ (strict : Bool) (rest : List Byte), decode strict (0x01#8 :: rest) = .ok (.rlA, rest) ∧
      decode strict (0x00#8 :: rest) = .ok (.rrA, rest)) ∧
    ∀ s : State,
      (∃ a : Nibble, exec .rlA s = .next { s with acc := a, c := s.acc.getLsbD 3, pc := s.pc + 1#12 } ∧
        a.getLsbD 3 = s.acc.getLsbD 2 ∧ a.getLsbD 2 = s.acc.getLsbD 1 ∧ a.getLsbD 1 = s.acc.getLsbD 0 ∧
        a.getLsbD 0 = s.acc.getLsbD 3) ∧
      ∃ a : Nibble, exec .rrA s = .next { s with acc := a, c := s.acc.getLsbD 0, pc := s.pc + 1#12 } ∧
        a.getLsbD 3 = s.acc.getLsbD 0 ∧ a.getLsbD 2 = s.acc.getLsbD 3 ∧ a.getLsbD 1 = s.acc.getLsbD 2 ∧
        a.getLsbD 0 = s.acc.getLsbD 1

/-- RLC A and RRC A: a rotation of C and ACC together. RLC A shifts ACC left with C into bit 0 and the old bit 3 into C;
RRC A shifts right with C into bit 3 and the old bit 0 into C; nothing else but PC changes (R147, R149). The fault
for an unwritten C is not in the model (notes/assumptions/1.md). -/
def Obligations.RotateThroughCarryResult : Prop :=
  ∀ s : State,
    (∃ a : Nibble, exec .rlcA s = .next { s with acc := a, c := s.acc.getLsbD 3, pc := s.pc + 1#12 } ∧
      a.getLsbD 3 = s.acc.getLsbD 2 ∧ a.getLsbD 2 = s.acc.getLsbD 1 ∧ a.getLsbD 1 = s.acc.getLsbD 0 ∧
      a.getLsbD 0 = s.c) ∧
    ∃ a : Nibble, exec .rrcA s = .next { s with acc := a, c := s.acc.getLsbD 0, pc := s.pc + 1#12 } ∧
      a.getLsbD 3 = s.c ∧ a.getLsbD 2 = s.acc.getLsbD 3 ∧ a.getLsbD 1 = s.acc.getLsbD 2 ∧
      a.getLsbD 0 = s.acc.getLsbD 1

/-- IN A,PS and IN A,PP read the pins; OUT PA,A writes the latch and the next fetch uses the new bank. Bit i of ACC
after IN is the level of pin i: the driven level, or high for an undriven pin with pull-high, or the environment's
bit (notes/assumptions/11.md; pin-to-bit is decision D24). OUT PA,A copies ACC to the latch and continues at npc in
the bank ACC[3] (decision D8, notes/assumptions/21.md). Nothing else but PC changes. -/
def Obligations.PortResult : Prop :=
  ∀ s : State,
    (∃ v : Nibble, exec .inAPs s = .next { s with acc := v, pc := s.pc + 1#12 } ∧
      ∀ k, k < 4 → v.getLsbD k =
        if s.ps.driven.getLsbD k then s.ps.level.getLsbD k else s.cfg.pullPs.getLsbD k || s.ps.level.getLsbD k) ∧
    (∃ v : Nibble, exec .inAPp s = .next { s with acc := v, pc := s.pc + 1#12 } ∧
      ∀ k, k < 4 → v.getLsbD k =
        if s.pp.driven.getLsbD k then s.pp.level.getLsbD k else s.cfg.pullPp.getLsbD k || s.pp.level.getLsbD k) ∧
    ∃ t, exec .outPaA s = .next t ∧ t = { s with pa := s.acc, pc := s.pc + 1#12 } ∧
      romRead t t.pc = romByte s.rom (BitVec.ofBool (s.acc.getLsbD 3) ++ (s.pc + 1#12))

/-- JMP address: first byte E0H..EFH, PC becomes the 12 address bits, the bank stays. The bytes 1110aaaa aaaaaaaa decode
to JMP with the 12 bits as written; in every state PC becomes that address and nothing else changes, PA[3] included
(R156; the order of the address bits is decision D2, notes/assumptions/15.md). -/
def Obligations.DirectJumpResult : Prop :=
  (∀ (strict : Bool) (a : PcWord) (rest : List Byte),
      decode strict ((0b1110#4 ++ a.extractLsb' 8 4) :: a.extractLsb' 0 8 :: rest) = .ok (.jmp a, rest)) ∧
    ∀ (s : State) (a : PcWord), exec (.jmp a) s = .next { s with pc := a }

/-- The conditional branches: taken exactly on their condition, bit 11 of npc kept, nothing else changed. JC, JNC, JZ A,
JNZ A, JNZ R0, JNZ R1, JNZ R4, JTMR and JAn set PC to bit 11 of npc with the 11 address bits if their condition
holds and to npc if not; JTMR clears TF in both cases; nothing else changes. The kept bit and the clearing are
decisions D9, D19 (notes/assumptions/16.md, 20.md). -/
def Obligations.ConditionalBranchResult : Prop :=
  ∀ (s : State) (a : BitVec 11),
    exec (.jc a) s = .next { s with
      pc := if s.c = true then (s.pc + 2#12).extractLsb' 11 1 ++ a else s.pc + 2#12 } ∧
    exec (.jnc a) s = .next { s with
      pc := if s.c = false then (s.pc + 2#12).extractLsb' 11 1 ++ a else s.pc + 2#12 } ∧
    exec (.jzA a) s = .next { s with
      pc := if s.acc.toNat = 0 then (s.pc + 2#12).extractLsb' 11 1 ++ a else s.pc + 2#12 } ∧
    exec (.jnzA a) s = .next { s with
      pc := if s.acc.toNat ≠ 0 then (s.pc + 2#12).extractLsb' 11 1 ++ a else s.pc + 2#12 } ∧
    exec (.jnzR0 a) s = .next { s with
      pc := if s.r0.toNat ≠ 0 then (s.pc + 2#12).extractLsb' 11 1 ++ a else s.pc + 2#12 } ∧
    exec (.jnzR1 a) s = .next { s with
      pc := if s.r1.toNat ≠ 0 then (s.pc + 2#12).extractLsb' 11 1 ++ a else s.pc + 2#12 } ∧
    exec (.jnzR4 a) s = .next { s with
      pc := if s.r4.toNat ≠ 0 then (s.pc + 2#12).extractLsb' 11 1 ++ a else s.pc + 2#12 } ∧
    exec (.jtmr a) s = .next { s with
      tf := false, pc := if s.tf = true then (s.pc + 2#12).extractLsb' 11 1 ++ a else s.pc + 2#12 } ∧
    ∀ n : BitVec 2, exec (.jan n a) s = .next { s with
      pc := if s.acc.getLsbD n.toNat = true then (s.pc + 2#12).extractLsb' 11 1 ++ a else s.pc + 2#12 }

/-- CALL, RET and RETI: the one-level stack register, the context and the carry. CALL outside an interrupt routine saves
npc in S, not the carry, goes to the address and sets CTX = SUB, also inside a subroutine; inside a routine it
faults (decision D21). RET sets PC to S and CTX to MAIN; RETI also restores C from SC; both keep the stack and IE
(notes/assumptions/13.md, 17.md, 18.md). -/
def Obligations.CallAndReturnResult : Prop :=
  ∀ (s : State),
    (∀ a : PcWord, s.ctx ≠ .isr →
      exec (.call a) s = .next { s with stackPc := s.pc + 2#12, pc := a, ctx := .sub }) ∧
    (∀ a : PcWord, s.ctx = .isr → exec (.call a) s = .fault .callInIsr) ∧
    exec .ret s = .next { s with pc := s.stackPc, ctx := .main } ∧
    exec .reti s = .next { s with pc := s.stackPc, c := s.stackC, ctx := .main }

/-- After a CALL inside a subroutine RET returns to the inner call site, and so does the RET after it. Whatever S held,
a CALL with CTX = SUB and the two RETs after it all succeed, and both returns go to the instruction after that CALL
with CTX = MAIN: the outer return address is lost (R28, R171; decisions D21, D22, notes/assumptions/17.md, 18.md). -/
def Obligations.NestedCallLosesOuterReturn : Prop :=
  ∀ (s : State) (a : PcWord), s.ctx = .sub →
    ∃ t u v, exec (.call a) s = .next t ∧ t.ctx = .sub ∧
      exec .ret t = .next u ∧ u.pc = s.pc + 2#12 ∧ u.ctx = .main ∧
      exec .ret u = .next v ∧ v.pc = s.pc + 2#12 ∧ v.ctx = .main

/-- CLC and STC: bytes 2AH and 2BH, one byte, one cycle, C = 0 and C = 1, nothing else. The byte 2AH decodes to CLC and
2BH to STC; each is one byte and one cycle; in every state CLC sets C to 0 and STC to 1, PC advances by 1 and
nothing else changes. -/
def Obligations.CarryInstructionsResult : Prop :=
  (∀ (strict : Bool) (rest : List Byte), decode strict (0x2A#8 :: rest) = .ok (.clc, rest) ∧
      decode strict (0x2B#8 :: rest) = .ok (.stc, rest)) ∧
    Instr.clc.length = 1 ∧ Instr.stc.length = 1 ∧ Instr.clc.cycles = some 1 ∧ Instr.stc.cycles = some 1 ∧
    ∀ s : State,
      exec .clc s = .next { s with c := false, pc := s.pc + 1#12 } ∧
      exec .stc s = .next { s with c := true, pc := s.pc + 1#12 }

/-- NOP: byte 3EH, one byte, one cycle, only PC changes; 00H is RR A and 3EH also ends HALT. The byte 3EH decodes to NOP
as a first byte and is the second byte of HALT; NOP is one byte and one cycle and in every state only PC changes, to
the next address. The byte 00H is RR A. -/
def Obligations.NopResult : Prop :=
  (∀ (strict : Bool) (rest : List Byte), decode strict (0x3E#8 :: rest) = .ok (.nop, rest) ∧
      decode strict (0x37#8 :: 0x3E#8 :: rest) = .ok (.halt, rest) ∧
      decode strict (0x00#8 :: rest) = .ok (.rrA, rest)) ∧
    Instr.nop.length = 1 ∧ Instr.nop.cycles = some 1 ∧
    ∀ s : State, exec .nop s = .next { s with pc := s.pc + 1#12 }

/-- EI and DI write IE alone; a held interrupt is taken by the core's step right after the EI. EI sets IE and DI clears
it, and nothing else but PC changes: pending bits stay. If TF or EXTL is set with CTX = MAIN, the core's turn after
the EI is the entry of a pending source, at 004H for the timer or 008H for the external interrupt, with its pending
bit cleared and the address after the EI saved (R176, R177; no delay is decision D12, EXTL held under DI is D14,
notes/assumptions/12.md, 13.md). -/
def Obligations.InterruptEnableResult : Prop :=
  ∀ s : State,
    exec .ei s = .next { s with ie := true, pc := s.pc + 1#12 } ∧
    exec .di s = .next { s with ie := false, pc := s.pc + 1#12 } ∧
    ∀ t, s.halted = false → s.resLow = false → s.ctx = .main → (s.tf = true ∨ s.extl = true) → exec .ei s = .next t →
      ∃ u, coreStep t = .next u ∧ u.ctx = .isr ∧ u.stackPc = s.pc + 1#12 ∧ u.stackC = s.c ∧
        ((u.pc = 0x004#12 ∧ s.tf = true ∧ u.tf = false ∧ u.extl = s.extl) ∨
          (u.pc = 0x008#12 ∧ s.extl = true ∧ u.extl = false ∧ u.tf = s.tf))

/-- The seven timer instructions: one effect each. TIMER XXH loads the count, TIMER ON and OFF write TON, MOV A,TMRL and
MOV A,TMRH copy a nibble of the count to ACC, MOV TMRL,A and MOV TMRH,A write one nibble and keep the other; nothing
else but PC changes, TF included (R185 to R192; decision D18, notes/assumptions/19.md). -/
def Obligations.TimerInstructionsResult : Prop :=
  ∀ s : State,
    (∀ x : Byte, exec (.timerImm x) s = .next { s with tmr := x, pc := s.pc + 2#12 }) ∧
    exec .timerOn s = .next { s with ton := true, pc := s.pc + 1#12 } ∧
    exec .timerOff s = .next { s with ton := false, pc := s.pc + 1#12 } ∧
    exec .movATmrl s = .next { s with acc := BitVec.ofNat 4 (s.tmr.toNat % 16), pc := s.pc + 1#12 } ∧
    exec .movATmrh s = .next { s with acc := BitVec.ofNat 4 (s.tmr.toNat / 16), pc := s.pc + 1#12 } ∧
    exec .movTmrlA s = .next { s with
      tmr := BitVec.ofNat 8 (16 * (s.tmr.toNat / 16) + s.acc.toNat), pc := s.pc + 1#12 } ∧
    exec .movTmrhA s = .next { s with
      tmr := BitVec.ofNat 8 (16 * s.acc.toNat + s.tmr.toNat % 16), pc := s.pc + 1#12 }

/-- A turn of the timer counts up, overflows from FFH to 00H with TF set, and does nothing when off or halted. With TON
= 1 outside HALT mode the timer's turn adds 1 to the count, and at FFH makes it 00H and sets TF; with TON = 0 or in
HALT mode it changes nothing (R240; decisions D16, D17, notes/assumptions/19.md). -/
def Obligations.TimerCountResult : Prop :=
  ∀ (s : State) (ts : List Turn), s.turns = .timerTick :: ts →
    (s.ton = true → s.halted = false → s.tmr.toNat < 255 →
      step s = .next { s with turns := ts, tmr := BitVec.ofNat 8 (s.tmr.toNat + 1) }) ∧
    (s.ton = true → s.halted = false → s.tmr.toNat = 255 →
      step s = .next { s with turns := ts, tmr := 0x00#8, tf := true }) ∧
    (s.ton = false ∨ s.halted = true → step s = .next { s with turns := ts })

/-- Loaded with 256 - k, the running timer sets TF at exactly the k-th count. From a running timer loaded with 256 - k
(k = 1 to 256) and TF clear, after any j < k counts TF is still clear, and after k counts the count is 00H and TF is
set; nothing else changes (R186, R240). -/
def Obligations.TimerOverflowsAfterLoadedCounts : Prop :=
  ∀ (s : State) (k : Nat), 1 ≤ k → k ≤ 256 → s.ton = true → s.halted = false → s.tf = false →
    s.tmr = BitVec.ofNat 8 (256 - k) →
    (∀ j, j < k → (ticks j s).tf = false) ∧ ticks k s = { s with tmr := 0x00#8, tf := true }

/-- READ R4A and READF R4A: the addressed ROM byte split into R4 and ACC. With low the cell at R1,R0, the byte at bank
PA[3], page npc[11:8] or F, ACC, low goes to R4 (high nibble) and ACC (low nibble); nothing else but PC changes
(R195, R196, R198, R200; the page is decision D9, the reading of sources first D28, notes/assumptions/16.md, 22.md). -/
def Obligations.TableReadToR4Result : Prop :=
  ∀ (s : State) (low : Nibble) (b : Byte), readCell s (s.r1 ++ s.r0) = some low →
    (romByte s.rom (BitVec.ofBool (s.pa.getLsbD 3) ++ ((s.pc + 1#12).extractLsb' 8 4 ++ s.acc ++ low)) = b →
      exec .readR4A s = .next { s with
        r4 := BitVec.ofNat 4 (b.toNat / 16), acc := BitVec.ofNat 4 (b.toNat % 16), pc := s.pc + 1#12 }) ∧
    (romByte s.rom (BitVec.ofBool (s.pa.getLsbD 3) ++ (0xF#4 ++ s.acc ++ low)) = b →
      exec .readfR4A s = .next { s with
        r4 := BitVec.ofNat 4 (b.toNat / 16), acc := BitVec.ofNat 4 (b.toNat % 16), pc := s.pc + 1#12 })

/-- READ MR0A and READF MR0A: the addressed ROM byte split into the cell at R1,R0 and ACC. The byte at bank PA[3], page
npc[11:8] or F, ACC, R4 goes to the cell at R1,R0 (high nibble), if it exists, and to ACC (low nibble); every other
cell reads as before and nothing else but PC changes (R195, R197, R199, R200; decisions D9, D28,
notes/assumptions/16.md, 22.md). -/
def Obligations.TableReadToMemoryResult : Prop :=
  ∀ (s : State) (b : Byte), ramExists (s.r1 ++ s.r0) = true →
    (romByte s.rom (BitVec.ofBool (s.pa.getLsbD 3) ++ ((s.pc + 1#12).extractLsb' 8 4 ++ s.acc ++ s.r4)) = b →
      ∃ ram', exec .readMr0A s = .next { s with
          ram := ram', acc := BitVec.ofNat 4 (b.toNat % 16), pc := s.pc + 1#12 } ∧
        ramUpdated s ram' (s.r1 ++ s.r0) (BitVec.ofNat 4 (b.toNat / 16))) ∧
    (romByte s.rom (BitVec.ofBool (s.pa.getLsbD 3) ++ (0xF#4 ++ s.acc ++ s.r4)) = b →
      ∃ ram', exec .readfMr0A s = .next { s with
          ram := ram', acc := BitVec.ofNat 4 (b.toNat % 16), pc := s.pc + 1#12 } ∧
        ramUpdated s ram' (s.r1 ++ s.r0) (BitVec.ofNat 4 (b.toNat / 16)))

/-- The five sound instructions write the sound control state alone. SOUND n and SOUND A select the sound n or ACC and
start it at its first note; SOUND ONE and SOUND LOOP set the mode; SOUND OFF ends the sound; nothing else but PC
changes (R205 to R210). The note number is the model's (notes/assumptions/23.md). -/
def Obligations.SoundInstructionsResult : Prop :=
  ∀ s : State,
    (∀ n : Nibble, exec (.soundN n) s = .next { s with
      sndCh := n, sndOn := true, sndNote := 0#6, pc := s.pc + 2#12 }) ∧
    exec .soundA s = .next { s with sndCh := s.acc, sndOn := true, sndNote := 0#6, pc := s.pc + 1#12 } ∧
    exec .soundOne s = .next { s with sndMode := .one, pc := s.pc + 1#12 } ∧
    exec .soundLoop s = .next { s with sndMode := .loop, pc := s.pc + 1#12 } ∧
    exec .soundOff s = .next { s with sndOn := false, pc := s.pc + 1#12 }

/-- HALT enters HALT mode; only a wake-up edge or reset leaves it, and nothing of the chip changes until then. HALT sets
HALTED and leaves PC after its two bytes (decision D15, notes/assumptions/25.md). In HALT mode every step succeeds,
and if the chip is still halted after it then only the pins, RES and the list of turns can differ; if it is not, the
turn was a wake-up edge of a pin or reset (R211, R245, R246, R248). WakeUpResult says what a wake-up edge is. The
idle step, the timer (D16), the note number and the BZ pads standing still are choices (notes/assumptions/9.md,
19.md, 23.md, 29.md). -/
def Obligations.HaltModeIsFrozen : Prop :=
  (∀ s : State, exec .halt s = .next { s with halted := true, pc := s.pc + 2#12 }) ∧
    ∀ s : State, s.halted = true →
      ∃ t, step s = .next t ∧
        (t.halted = true → ∃ ps pp r ts, t = { s with ps := ps, pp := pp, resLow := r, turns := ts }) ∧
        (t.halted = false → (∃ ts, s.turns = .resLow :: ts) ∨
          ∃ ps pp ts, s.turns = .pins ps pp :: ts ∧ wakeEdge s ps pp = true)

/-- An accepted interrupt saves PC and C, clears its pending bit, and goes to 004H or 008H of the same bank. If at the
core's turn outside reset HALTED = 0, IE = 1, CTX = MAIN and exactly one source is pending, the step is the entry: S
= PC, SC = C, PC = 004H with TF cleared (timer) or 008H with EXTL cleared (external), CTX = ISR, and nothing else
changes, IE and PA included (R226, R227, R229; IE is decision D11, notes/assumptions/13.md). -/
def Obligations.InterruptEntryResult : Prop :=
  ∀ (s s' : State), coreTurn s s' → s'.halted = false → s'.resLow = false → s'.ie = true → s'.ctx = .main →
    (s'.tf = true → s'.extl = false →
      step s = .next { s' with
        stackPc := s'.pc, stackC := s'.c, pc := 0x004#12, tf := false, ctx := .isr }) ∧
    (s'.tf = false → s'.extl = true →
      step s = .next { s' with
        stackPc := s'.pc, stackC := s'.c, pc := 0x008#12, extl := false, ctx := .isr })

/-- With both sources pending IRQ_PRIORITY decides, and the source not taken stays pending. With TF = EXTL = 1 at an
accepting boundary: timer_first enters at 004H and keeps EXTL, external_first enters at 008H and keeps TF, and under
either the step is one of the two. The parameter is open (decision D13); the choice under either is a free value
(notes/assumptions/7.md). -/
def Obligations.SimultaneousInterruptsResult : Prop :=
  ∀ (s s' : State), coreTurn s s' → s'.halted = false → s'.resLow = false → s'.ie = true → s'.ctx = .main →
    s'.tf = true → s'.extl = true →
    ∃ t, step s = .next t ∧ t.stackPc = s'.pc ∧ t.stackC = s'.c ∧ t.ctx = .isr ∧
      ((t.pc = 0x004#12 ∧ t.tf = false ∧ t.extl = true) ∨ (t.pc = 0x008#12 ∧ t.tf = true ∧ t.extl = false)) ∧
      (s'.cfg.irqPriority = .timerFirst → t.pc = 0x004#12) ∧
      (s'.cfg.irqPriority = .externalFirst → t.pc = 0x008#12)

/-- An interrupt is taken only in the main program with IE = 1, and a routine keeps its return address. If a step ends
with CTX = ISR from another CTX, it was the core's turn with HALTED = 0, IE = 1, CTX = MAIN and TF or EXTL set. At
every turn of a running core with IE = 0, or CTX = SUB or ISR, or nothing pending, the step is the instruction at
PC, so no entry is nested in a subroutine or a routine; and while CTX stays ISR no step changes S or SC (R226, R233;
decision D10, notes/assumptions/13.md; CALL in a routine is D21, 17.md). -/
def Obligations.OnlyAcceptedEntryStartsRoutine : Prop :=
  (∀ s t : State, step s = .next t → t.ctx = .isr → s.ctx ≠ .isr →
      s.ctx = .main ∧ s.ie = true ∧ s.halted = false ∧ (s.tf = true ∨ s.extl = true) ∧
      (s.turns = [] ∨ ∃ ts, s.turns = .core :: ts)) ∧
    (∀ (s s' : State) (i : Instr), coreTurn s s' → s'.halted = false → s'.resLow = false →
      (s'.ie = false ∨ s'.ctx ≠ .main ∨ (s'.tf = false ∧ s'.extl = false)) → instructionAtPc s' i →
      step s = exec i s') ∧
    ∀ s t : State, step s = .next t → s.ctx = .isr → t.ctx = .isr →
      t.stackPc = s.stackPc ∧ t.stackC = s.stackC

/-- A RETI right at the entry gives back the interrupted program exactly. If an interrupt is accepted and the routine is
a lone RETI, then after it PC, C, CTX, ACC, the registers, RAM, PA, IE and the timer are those of the interrupted
program; only the pending bit that was taken and the stack register differ, and the draw count (R232, and R231,
which the spec derives). That entry and RETI leave IE alone is decision D11 (notes/assumptions/13.md), and the draw
count is the model's (7.md). -/
def Obligations.InterruptIsPrecise : Prop :=
  ∀ s : State, irqAccepted s = true →
    ∃ t, exec .reti (acceptInterrupt s) = .next t ∧
      t = { s with stackPc := s.pc, stackC := s.c, tf := t.tf, extl := t.extl, draws := t.draws } ∧
      ((t.tf = false ∧ s.tf = true ∧ t.extl = s.extl) ∨ (t.extl = false ∧ s.extl = true ∧ t.tf = s.tf))

/-- A wake-up edge ends HALT mode, sets EXTL, and the next turn of the core is the entry or the next instruction. There
is a wake-up edge exactly when some pin of PS or PP with its WAKE option goes from high to low. In HALT mode it
clears HALTED and sets EXTL (to 0 under DI if EXTL_HELD_UNDER_DI is false); without one the pins alone change. With
IE = 1, CTX = MAIN and TF = 0 the core's turn after it enters at 008H with the HALT's next address saved; with IE =
0, or CTX other than MAIN, it runs the instruction at PC (R224, R246, R247; decision D14, notes/assumptions/12.md;
pin levels, 11.md). -/
def Obligations.WakeUpResult : Prop :=
  (∀ (s : State) (ps pp : InputPort), wakeEdge s ps pp = true ↔
      ∃ k, k < 4 ∧ (pinFalls s.ps ps s.cfg.pullPs s.cfg.wakePs k ∨ pinFalls s.pp pp s.cfg.pullPp s.cfg.wakePp k)) ∧
    ∀ (s : State) (ps pp : InputPort) (ts : List Turn), s.halted = true → s.resLow = false →
      s.turns = .pins ps pp :: ts →
      (wakeEdge s ps pp = false → step s = .next { s with turns := ts, ps := ps, pp := pp }) ∧
      (wakeEdge s ps pp = true → ∃ t, step s = .next t ∧
        t = { s with
          turns := ts, ps := ps, pp := pp, halted := false, extl := s.ie || s.cfg.extlHeldUnderDi } ∧
        (s.ie = true → s.ctx = .main → s.tf = false →
          coreStep t = .next { t with
            stackPc := s.pc, stackC := s.c, pc := 0x008#12, extl := false, ctx := .isr }) ∧
        (s.ie = false ∨ s.ctx ≠ .main → ∀ i, instructionAtPc t i → coreStep t = exec i t))

/-- Under both values of LCD_SEG0_AT_FE the 320 crossings are the 320 bits of the display area, each once. Every bit of
every cell B0H..FFH is the crossing of exactly one segment and common, every crossing has its cell there, and at bit
j mod 4; the cell is FEH - 2k + j div 4, or B0H + 2k + j div 4 with LCD_SEG0_AT_FE false. A crossing is on exactly
when its bit is 1 and the chip is not in HALT mode (R60, R243; the direction is decision D27,
notes/assumptions/24.md). -/
def Obligations.LcdMappingIsOneToOne : Prop :=
  ∀ c : Config,
    (∀ (k : Fin 40) (j : Fin 8), 0xB0 ≤ (lcdCell c k j).toNat ∧
      (c.lcdSeg0AtFe = true → (lcdCell c k j).toNat + 2 * k.val = 0xFE + j.val / 4) ∧
      (c.lcdSeg0AtFe = false → (lcdCell c k j).toNat = 0xB0 + 2 * k.val + j.val / 4)) ∧
    (∀ (a : RamAddr) (b : Fin 4), 0xB0 ≤ a.toNat →
      ∃! kj : Fin 40 × Fin 8, lcdCell c kj.1 kj.2 = a ∧ kj.2.val % 4 = b.val) ∧
    ∀ (s : State) (k : Fin 40) (j : Fin 8), s.cfg = c →
      ∃ v, readCell s (lcdCell c k j) = some v ∧
        (lcdOn s k j = true ↔ s.halted = false ∧ v.getLsbD (j.val % 4) = true)

/-- The sound generator: a ONE-mode sound ends with its last note, a LOOP-mode sound starts again. Sounds 0 to 11 have
32 notes and 12 to 15 have 64 (R206). A turn of the sound generator ends one note: before the last it goes to the
next, at the last it clears SND_ON in ONE mode (SoundEnd, R242, R208) and goes to the first in LOOP mode (R209);
with SND_ON = 0 or in HALT mode it does nothing. From its first note a sound still plays before its last turn, and
after as many turns as it has notes a ONE-mode sound is off and a LOOP-mode sound is where it began. The note number
is the model's (decision D26, notes/assumptions/23.md). -/
def Obligations.SoundEndResult : Prop :=
  ∀ (s : State) (n : Nat), n = (if 12 ≤ s.sndCh.toNat then 64 else 32) →
    (∀ ts, s.turns = .soundNote :: ts →
      (s.sndOn = true → s.halted = false →
        (s.sndNote.toNat + 1 < n → step s = .next { s with turns := ts, sndNote := s.sndNote + 1#6 }) ∧
        (s.sndNote.toNat + 1 = n → s.sndMode = .one →
          step s = .next { s with turns := ts, sndOn := false, sndNote := 0#6 }) ∧
        (s.sndNote.toNat + 1 = n → s.sndMode = .loop → step s = .next { s with turns := ts, sndNote := 0#6 })) ∧
      (s.sndOn = false ∨ s.halted = true → step s = .next { s with turns := ts })) ∧
    (s.sndOn = true → s.halted = false → s.sndNote = 0#6 →
      (∀ j, j < n → (notes j s).sndOn = true) ∧
      (s.sndMode = .one → notes n s = { s with sndOn := false }) ∧
      (s.sndMode = .loop → notes n s = s))
end

