-- ==== Sys2Proof/Laws/Memory.lean ====
section
/-! SUPPORT. Sys2Proof/Laws/Memory.lean: the two laws of the memory lists (a read after a write), and that every memory
operation keeps the canonical form. -/

namespace Sys2Proof.Machine

section Lists
variable {w : Nat}

theorem cellFind_cellInsert (m : List (Nat × BitVec w)) (a b : Nat) (v : BitVec w) :
    cellFind (cellInsert m a v) b = if b = a then some v else cellFind m b := by
  induction m with
  | nil => simp only [cellInsert, cellFind, eq_comm]
  | cons e m ih =>
    obtain ⟨k, u⟩ := e
    simp only [cellInsert]
    split
    · simp only [cellFind, eq_comm (a := a)]
    · split
      · subst_vars; simp only [cellFind, eq_comm (b := b)]; split <;> rfl
      · simp only [cellFind, ih]
        split <;> split <;> simp_all

theorem cellFind_cellErase (m : List (Nat × BitVec w)) (a b : Nat) :
    cellFind (cellErase m a) b = if b = a then none else cellFind m b := by
  induction m with
  | nil => simp [cellErase, cellFind]
  | cons e m ih =>
    obtain ⟨k, u⟩ := e
    simp only [cellErase]
    split
    · subst_vars; rw [ih]; split <;> simp_all [cellFind, eq_comm]
    · simp only [cellFind, ih]; split <;> split <;> simp_all

theorem cellsAbove_mono {m : List (Nat × BitVec w)} {n k : Nat} (h : n ≤ k) (hm : cellsAbove k m = true) :
    cellsAbove n m = true := by
  cases m with
  | nil => rfl
  | cons e m =>
    simp only [cellsAbove, Bool.and_eq_true, decide_eq_true_eq] at hm ⊢
    exact ⟨by omega, hm.2⟩

theorem cellsAbove_cellInsert {m : List (Nat × BitVec w)} {n a : Nat} (v : BitVec w) (ha : n < a)
    (hm : cellsAbove n m = true) : cellsAbove n (cellInsert m a v) = true := by
  induction m generalizing n with
  | nil => simp [cellInsert, cellsAbove, ha]
  | cons e m ih =>
    obtain ⟨k, u⟩ := e
    simp only [cellsAbove, Bool.and_eq_true, decide_eq_true_eq] at hm
    simp only [cellInsert]
    split
    · simp [cellsAbove, *]
    · split
      · subst_vars; simp [cellsAbove, *]
      · simp only [cellsAbove, Bool.and_eq_true, decide_eq_true_eq]
        exact ⟨hm.1, ih (by omega) hm.2⟩

theorem cellsAbove_cellErase {m : List (Nat × BitVec w)} {n : Nat} (a : Nat) (hm : cellsAbove n m = true) :
    cellsAbove n (cellErase m a) = true := by
  induction m generalizing n with
  | nil => rfl
  | cons e m ih =>
    obtain ⟨k, u⟩ := e
    simp only [cellsAbove, Bool.and_eq_true, decide_eq_true_eq] at hm
    simp only [cellErase]
    split
    · exact ih (cellsAbove_mono (Nat.le_of_lt hm.1) hm.2)
    · simp only [cellsAbove, Bool.and_eq_true, decide_eq_true_eq]
      exact ⟨hm.1, ih hm.2⟩

theorem cellsRising_of_above {m : List (Nat × BitVec w)} {n : Nat} (hm : cellsAbove n m = true) :
    cellsRising m = true := by
  cases m with
  | nil => rfl
  | cons e m =>
    simp only [cellsAbove, Bool.and_eq_true] at hm
    exact hm.2

theorem cellsRising_cellInsert {m : List (Nat × BitVec w)} (a : Nat) (v : BitVec w) (hm : cellsRising m = true) :
    cellsRising (cellInsert m a v) = true := by
  cases m with
  | nil => rfl
  | cons e m =>
    obtain ⟨k, u⟩ := e
    simp only [cellsRising] at hm
    simp only [cellInsert]
    split
    · simp [cellsRising, cellsAbove, *]
    · split
      · subst_vars; exact hm
      · exact cellsAbove_cellInsert v (by omega) hm

theorem cellsRising_cellErase {m : List (Nat × BitVec w)} (a : Nat) (hm : cellsRising m = true) :
    cellsRising (cellErase m a) = true := by
  cases m with
  | nil => rfl
  | cons e m =>
    obtain ⟨k, u⟩ := e
    simp only [cellsRising] at hm
    simp only [cellErase]
    split
    · exact cellsRising_of_above (cellsAbove_cellErase a hm)
    · exact cellsAbove_cellErase a hm

theorem mem_cellInsert {m : List (Nat × BitVec w)} {a : Nat} {v : BitVec w} {e : Nat × BitVec w}
    (h : e ∈ cellInsert m a v) : e = (a, v) ∨ e ∈ m := by
  induction m with
  | nil => simpa [cellInsert] using h
  | cons d m ih =>
    obtain ⟨k, u⟩ := d
    simp only [cellInsert] at h
    split at h
    · simpa using h
    · split at h <;> simp only [List.mem_cons] at h ⊢ <;> tauto

theorem mem_cellErase {m : List (Nat × BitVec w)} {a : Nat} {e : Nat × BitVec w} (h : e ∈ cellErase m a) : e ∈ m := by
  induction m with
  | nil => exact absurd h List.not_mem_nil
  | cons d m ih =>
    obtain ⟨k, u⟩ := d
    simp only [cellErase] at h
    split at h <;> simp only [List.mem_cons] at h ⊢ <;> tauto

end Lists

/-- A store to a cell that exists keeps data RAM in canonical form. -/
theorem ramWf_setCell {s : State} {a : RamAddr} (v : Nibble) (ha : ramExists a = true) (h : ramWf s.ram = true) :
    ramWf (setCell s a v).ram = true := by
  simp only [ramWf, Bool.and_eq_true, List.all_eq_true, decide_eq_true_eq] at h ⊢
  refine ⟨cellsRising_cellInsert _ _ h.1, fun e he => ?_⟩
  rcases mem_cellInsert he with rfl | he
  · exact ⟨a.isLt, by simpa using ha⟩
  · exact h.2 e he

/-- Replacing a byte of the ROM image keeps ROM in canonical form. -/
theorem romWf_romPut {rom : List Host.Cell} (a : RomAddr) (b : Byte) (h : romWf rom = true) :
    romWf (romPut rom a b) = true := by
  simp only [romWf, Bool.and_eq_true, List.all_eq_true, decide_eq_true_eq] at h ⊢
  unfold romPut
  split
  · exact ⟨cellsRising_cellErase _ h.1, fun e he => h.2 e (mem_cellErase he)⟩
  · refine ⟨cellsRising_cellInsert _ _ h.1, fun e he => ?_⟩
    rcases mem_cellInsert he with rfl | he
    · exact ⟨a.isLt, by simpa using ‹_›⟩
    · exact h.2 e he

/-- Both memories of the reset state are in canonical form. -/
theorem reset_memory_wf : Memory.wf State.reset = true := by decide

/-- MemRead answers exactly for the cells that exist. -/
theorem readCell_isSome (s : State) (a : RamAddr) : (readCell s a).isSome = ramExists a := by
  unfold readCell; split <;> simp_all

/-- MemRead after MemWrite: the value written at its address, and every other address as before. -/
theorem readCell_setCell (s : State) (a b : RamAddr) (v : Nibble) (ha : ramExists a = true) :
    readCell (setCell s a v) b = if b = a then some v else readCell s b := by
  have hab : b.toNat = a.toNat ↔ b = a := ⟨BitVec.eq_of_toNat_eq, fun h => h ▸ rfl⟩
  simp only [readCell, setCell, cellFind_cellInsert, hab]
  split <;> split <;> simp_all

/-- RomRead after replacing a byte of the image. -/
theorem romByte_romPut (rom : List Host.Cell) (a b : RomAddr) (v : Byte) :
    romByte (romPut rom a v) b = if b = a then v else romByte rom b := by
  have hab : b.toNat = a.toNat ↔ b = a := ⟨BitVec.eq_of_toNat_eq, fun h => h ▸ rfl⟩
  simp only [romByte, romPut]
  split <;> simp only [cellFind_cellErase, cellFind_cellInsert, hab] <;> split <;> simp_all

end Sys2Proof.Machine
end

