-- ==== Sys2Proof/Laws/State.lean ====
section
/-! SUPPORT. Sys2Proof/Laws/State.lean: one lemma per field per update of the state, all true by rfl, so that no proof
unfolds a record update. -/

namespace Sys2Proof.Machine

section advanceFields
variable (n : Nat) (s : State)

@[simp] theorem advance_acc : (advance n s).acc = s.acc := rfl
@[simp] theorem advance_r0 : (advance n s).r0 = s.r0 := rfl
@[simp] theorem advance_r1 : (advance n s).r1 = s.r1 := rfl
@[simp] theorem advance_r2 : (advance n s).r2 = s.r2 := rfl
@[simp] theorem advance_r3 : (advance n s).r3 = s.r3 := rfl
@[simp] theorem advance_r4 : (advance n s).r4 = s.r4 := rfl
@[simp] theorem advance_c : (advance n s).c = s.c := rfl
@[simp] theorem advance_pc : (advance n s).pc = npc s n := rfl
@[simp] theorem advance_pa : (advance n s).pa = s.pa := rfl
@[simp] theorem advance_stackPc : (advance n s).stackPc = s.stackPc := rfl
@[simp] theorem advance_stackC : (advance n s).stackC = s.stackC := rfl
@[simp] theorem advance_tmr : (advance n s).tmr = s.tmr := rfl
@[simp] theorem advance_ton : (advance n s).ton = s.ton := rfl
@[simp] theorem advance_tf : (advance n s).tf = s.tf := rfl
@[simp] theorem advance_ie : (advance n s).ie = s.ie := rfl
@[simp] theorem advance_extl : (advance n s).extl = s.extl := rfl
@[simp] theorem advance_ctx : (advance n s).ctx = s.ctx := rfl
@[simp] theorem advance_halted : (advance n s).halted = s.halted := rfl
@[simp] theorem advance_sndCh : (advance n s).sndCh = s.sndCh := rfl
@[simp] theorem advance_sndOn : (advance n s).sndOn = s.sndOn := rfl
@[simp] theorem advance_sndMode : (advance n s).sndMode = s.sndMode := rfl
@[simp] theorem advance_sndNote : (advance n s).sndNote = s.sndNote := rfl
@[simp] theorem advance_bz : (advance n s).bz = s.bz := rfl
@[simp] theorem advance_bzBar : (advance n s).bzBar = s.bzBar := rfl
@[simp] theorem advance_ram : (advance n s).ram = s.ram := rfl
@[simp] theorem advance_rom : (advance n s).rom = s.rom := rfl
@[simp] theorem advance_ps : (advance n s).ps = s.ps := rfl
@[simp] theorem advance_pp : (advance n s).pp = s.pp := rfl
@[simp] theorem advance_resLow : (advance n s).resLow = s.resLow := rfl
@[simp] theorem advance_cfg : (advance n s).cfg = s.cfg := rfl
@[simp] theorem advance_turns : (advance n s).turns = s.turns := rfl
@[simp] theorem advance_draws : (advance n s).draws = s.draws := rfl
@[simp] theorem advance_resets : (advance n s).resets = s.resets := rfl

end advanceFields

section branchIfFields
variable (b : Bool) (a : BitVec 11) (s : State)

@[simp] theorem branchIf_acc : (branchIf b a s).acc = s.acc := rfl
@[simp] theorem branchIf_r0 : (branchIf b a s).r0 = s.r0 := rfl
@[simp] theorem branchIf_r1 : (branchIf b a s).r1 = s.r1 := rfl
@[simp] theorem branchIf_r2 : (branchIf b a s).r2 = s.r2 := rfl
@[simp] theorem branchIf_r3 : (branchIf b a s).r3 = s.r3 := rfl
@[simp] theorem branchIf_r4 : (branchIf b a s).r4 = s.r4 := rfl
@[simp] theorem branchIf_c : (branchIf b a s).c = s.c := rfl
@[simp] theorem branchIf_pc : (branchIf b a s).pc = if b then branchTarget s a else npc s 2 := rfl
@[simp] theorem branchIf_pa : (branchIf b a s).pa = s.pa := rfl
@[simp] theorem branchIf_stackPc : (branchIf b a s).stackPc = s.stackPc := rfl
@[simp] theorem branchIf_stackC : (branchIf b a s).stackC = s.stackC := rfl
@[simp] theorem branchIf_tmr : (branchIf b a s).tmr = s.tmr := rfl
@[simp] theorem branchIf_ton : (branchIf b a s).ton = s.ton := rfl
@[simp] theorem branchIf_tf : (branchIf b a s).tf = s.tf := rfl
@[simp] theorem branchIf_ie : (branchIf b a s).ie = s.ie := rfl
@[simp] theorem branchIf_extl : (branchIf b a s).extl = s.extl := rfl
@[simp] theorem branchIf_ctx : (branchIf b a s).ctx = s.ctx := rfl
@[simp] theorem branchIf_halted : (branchIf b a s).halted = s.halted := rfl
@[simp] theorem branchIf_sndCh : (branchIf b a s).sndCh = s.sndCh := rfl
@[simp] theorem branchIf_sndOn : (branchIf b a s).sndOn = s.sndOn := rfl
@[simp] theorem branchIf_sndMode : (branchIf b a s).sndMode = s.sndMode := rfl
@[simp] theorem branchIf_sndNote : (branchIf b a s).sndNote = s.sndNote := rfl
@[simp] theorem branchIf_bz : (branchIf b a s).bz = s.bz := rfl
@[simp] theorem branchIf_bzBar : (branchIf b a s).bzBar = s.bzBar := rfl
@[simp] theorem branchIf_ram : (branchIf b a s).ram = s.ram := rfl
@[simp] theorem branchIf_rom : (branchIf b a s).rom = s.rom := rfl
@[simp] theorem branchIf_ps : (branchIf b a s).ps = s.ps := rfl
@[simp] theorem branchIf_pp : (branchIf b a s).pp = s.pp := rfl
@[simp] theorem branchIf_resLow : (branchIf b a s).resLow = s.resLow := rfl
@[simp] theorem branchIf_cfg : (branchIf b a s).cfg = s.cfg := rfl
@[simp] theorem branchIf_turns : (branchIf b a s).turns = s.turns := rfl
@[simp] theorem branchIf_draws : (branchIf b a s).draws = s.draws := rfl
@[simp] theorem branchIf_resets : (branchIf b a s).resets = s.resets := rfl

end branchIfFields

section setCellFields
variable (s : State) (a : RamAddr) (v : Nibble)

@[simp] theorem setCell_acc : (setCell s a v).acc = s.acc := rfl
@[simp] theorem setCell_r0 : (setCell s a v).r0 = s.r0 := rfl
@[simp] theorem setCell_r1 : (setCell s a v).r1 = s.r1 := rfl
@[simp] theorem setCell_r2 : (setCell s a v).r2 = s.r2 := rfl
@[simp] theorem setCell_r3 : (setCell s a v).r3 = s.r3 := rfl
@[simp] theorem setCell_r4 : (setCell s a v).r4 = s.r4 := rfl
@[simp] theorem setCell_c : (setCell s a v).c = s.c := rfl
@[simp] theorem setCell_pc : (setCell s a v).pc = s.pc := rfl
@[simp] theorem setCell_pa : (setCell s a v).pa = s.pa := rfl
@[simp] theorem setCell_stackPc : (setCell s a v).stackPc = s.stackPc := rfl
@[simp] theorem setCell_stackC : (setCell s a v).stackC = s.stackC := rfl
@[simp] theorem setCell_tmr : (setCell s a v).tmr = s.tmr := rfl
@[simp] theorem setCell_ton : (setCell s a v).ton = s.ton := rfl
@[simp] theorem setCell_tf : (setCell s a v).tf = s.tf := rfl
@[simp] theorem setCell_ie : (setCell s a v).ie = s.ie := rfl
@[simp] theorem setCell_extl : (setCell s a v).extl = s.extl := rfl
@[simp] theorem setCell_ctx : (setCell s a v).ctx = s.ctx := rfl
@[simp] theorem setCell_halted : (setCell s a v).halted = s.halted := rfl
@[simp] theorem setCell_sndCh : (setCell s a v).sndCh = s.sndCh := rfl
@[simp] theorem setCell_sndOn : (setCell s a v).sndOn = s.sndOn := rfl
@[simp] theorem setCell_sndMode : (setCell s a v).sndMode = s.sndMode := rfl
@[simp] theorem setCell_sndNote : (setCell s a v).sndNote = s.sndNote := rfl
@[simp] theorem setCell_bz : (setCell s a v).bz = s.bz := rfl
@[simp] theorem setCell_bzBar : (setCell s a v).bzBar = s.bzBar := rfl
@[simp] theorem setCell_ram : (setCell s a v).ram = cellInsert s.ram a.toNat v := rfl
@[simp] theorem setCell_rom : (setCell s a v).rom = s.rom := rfl
@[simp] theorem setCell_ps : (setCell s a v).ps = s.ps := rfl
@[simp] theorem setCell_pp : (setCell s a v).pp = s.pp := rfl
@[simp] theorem setCell_resLow : (setCell s a v).resLow = s.resLow := rfl
@[simp] theorem setCell_cfg : (setCell s a v).cfg = s.cfg := rfl
@[simp] theorem setCell_turns : (setCell s a v).turns = s.turns := rfl
@[simp] theorem setCell_draws : (setCell s a v).draws = s.draws := rfl
@[simp] theorem setCell_resets : (setCell s a v).resets = s.resets := rfl

end setCellFields

section writeSumFields
variable (s : State) (x : BitVec 5)

@[simp] theorem writeSum_acc : (writeSum s x).acc = x.extractLsb' 0 4 := rfl
@[simp] theorem writeSum_r0 : (writeSum s x).r0 = s.r0 := rfl
@[simp] theorem writeSum_r1 : (writeSum s x).r1 = s.r1 := rfl
@[simp] theorem writeSum_r2 : (writeSum s x).r2 = s.r2 := rfl
@[simp] theorem writeSum_r3 : (writeSum s x).r3 = s.r3 := rfl
@[simp] theorem writeSum_r4 : (writeSum s x).r4 = s.r4 := rfl
@[simp] theorem writeSum_c : (writeSum s x).c = x.getLsbD 4 := rfl
@[simp] theorem writeSum_pc : (writeSum s x).pc = s.pc := rfl
@[simp] theorem writeSum_pa : (writeSum s x).pa = s.pa := rfl
@[simp] theorem writeSum_stackPc : (writeSum s x).stackPc = s.stackPc := rfl
@[simp] theorem writeSum_stackC : (writeSum s x).stackC = s.stackC := rfl
@[simp] theorem writeSum_tmr : (writeSum s x).tmr = s.tmr := rfl
@[simp] theorem writeSum_ton : (writeSum s x).ton = s.ton := rfl
@[simp] theorem writeSum_tf : (writeSum s x).tf = s.tf := rfl
@[simp] theorem writeSum_ie : (writeSum s x).ie = s.ie := rfl
@[simp] theorem writeSum_extl : (writeSum s x).extl = s.extl := rfl
@[simp] theorem writeSum_ctx : (writeSum s x).ctx = s.ctx := rfl
@[simp] theorem writeSum_halted : (writeSum s x).halted = s.halted := rfl
@[simp] theorem writeSum_sndCh : (writeSum s x).sndCh = s.sndCh := rfl
@[simp] theorem writeSum_sndOn : (writeSum s x).sndOn = s.sndOn := rfl
@[simp] theorem writeSum_sndMode : (writeSum s x).sndMode = s.sndMode := rfl
@[simp] theorem writeSum_sndNote : (writeSum s x).sndNote = s.sndNote := rfl
@[simp] theorem writeSum_bz : (writeSum s x).bz = s.bz := rfl
@[simp] theorem writeSum_bzBar : (writeSum s x).bzBar = s.bzBar := rfl
@[simp] theorem writeSum_ram : (writeSum s x).ram = s.ram := rfl
@[simp] theorem writeSum_rom : (writeSum s x).rom = s.rom := rfl
@[simp] theorem writeSum_ps : (writeSum s x).ps = s.ps := rfl
@[simp] theorem writeSum_pp : (writeSum s x).pp = s.pp := rfl
@[simp] theorem writeSum_resLow : (writeSum s x).resLow = s.resLow := rfl
@[simp] theorem writeSum_cfg : (writeSum s x).cfg = s.cfg := rfl
@[simp] theorem writeSum_turns : (writeSum s x).turns = s.turns := rfl
@[simp] theorem writeSum_draws : (writeSum s x).draws = s.draws := rfl
@[simp] theorem writeSum_resets : (writeSum s x).resets = s.resets := rfl

end writeSumFields

section rotateLeftWithFields
variable (s : State) (b : Bool)

@[simp] theorem rotateLeftWith_acc : (rotateLeftWith s b).acc = s.acc.extractLsb' 0 3 ++ BitVec.ofBool b := rfl
@[simp] theorem rotateLeftWith_r0 : (rotateLeftWith s b).r0 = s.r0 := rfl
@[simp] theorem rotateLeftWith_r1 : (rotateLeftWith s b).r1 = s.r1 := rfl
@[simp] theorem rotateLeftWith_r2 : (rotateLeftWith s b).r2 = s.r2 := rfl
@[simp] theorem rotateLeftWith_r3 : (rotateLeftWith s b).r3 = s.r3 := rfl
@[simp] theorem rotateLeftWith_r4 : (rotateLeftWith s b).r4 = s.r4 := rfl
@[simp] theorem rotateLeftWith_c : (rotateLeftWith s b).c = s.acc.getLsbD 3 := rfl
@[simp] theorem rotateLeftWith_pc : (rotateLeftWith s b).pc = s.pc := rfl
@[simp] theorem rotateLeftWith_pa : (rotateLeftWith s b).pa = s.pa := rfl
@[simp] theorem rotateLeftWith_stackPc : (rotateLeftWith s b).stackPc = s.stackPc := rfl
@[simp] theorem rotateLeftWith_stackC : (rotateLeftWith s b).stackC = s.stackC := rfl
@[simp] theorem rotateLeftWith_tmr : (rotateLeftWith s b).tmr = s.tmr := rfl
@[simp] theorem rotateLeftWith_ton : (rotateLeftWith s b).ton = s.ton := rfl
@[simp] theorem rotateLeftWith_tf : (rotateLeftWith s b).tf = s.tf := rfl
@[simp] theorem rotateLeftWith_ie : (rotateLeftWith s b).ie = s.ie := rfl
@[simp] theorem rotateLeftWith_extl : (rotateLeftWith s b).extl = s.extl := rfl
@[simp] theorem rotateLeftWith_ctx : (rotateLeftWith s b).ctx = s.ctx := rfl
@[simp] theorem rotateLeftWith_halted : (rotateLeftWith s b).halted = s.halted := rfl
@[simp] theorem rotateLeftWith_sndCh : (rotateLeftWith s b).sndCh = s.sndCh := rfl
@[simp] theorem rotateLeftWith_sndOn : (rotateLeftWith s b).sndOn = s.sndOn := rfl
@[simp] theorem rotateLeftWith_sndMode : (rotateLeftWith s b).sndMode = s.sndMode := rfl
@[simp] theorem rotateLeftWith_sndNote : (rotateLeftWith s b).sndNote = s.sndNote := rfl
@[simp] theorem rotateLeftWith_bz : (rotateLeftWith s b).bz = s.bz := rfl
@[simp] theorem rotateLeftWith_bzBar : (rotateLeftWith s b).bzBar = s.bzBar := rfl
@[simp] theorem rotateLeftWith_ram : (rotateLeftWith s b).ram = s.ram := rfl
@[simp] theorem rotateLeftWith_rom : (rotateLeftWith s b).rom = s.rom := rfl
@[simp] theorem rotateLeftWith_ps : (rotateLeftWith s b).ps = s.ps := rfl
@[simp] theorem rotateLeftWith_pp : (rotateLeftWith s b).pp = s.pp := rfl
@[simp] theorem rotateLeftWith_resLow : (rotateLeftWith s b).resLow = s.resLow := rfl
@[simp] theorem rotateLeftWith_cfg : (rotateLeftWith s b).cfg = s.cfg := rfl
@[simp] theorem rotateLeftWith_turns : (rotateLeftWith s b).turns = s.turns := rfl
@[simp] theorem rotateLeftWith_draws : (rotateLeftWith s b).draws = s.draws := rfl
@[simp] theorem rotateLeftWith_resets : (rotateLeftWith s b).resets = s.resets := rfl

end rotateLeftWithFields

section rotateRightWithFields
variable (s : State) (b : Bool)

@[simp] theorem rotateRightWith_acc : (rotateRightWith s b).acc = BitVec.ofBool b ++ s.acc.extractLsb' 1 3 := rfl
@[simp] theorem rotateRightWith_r0 : (rotateRightWith s b).r0 = s.r0 := rfl
@[simp] theorem rotateRightWith_r1 : (rotateRightWith s b).r1 = s.r1 := rfl
@[simp] theorem rotateRightWith_r2 : (rotateRightWith s b).r2 = s.r2 := rfl
@[simp] theorem rotateRightWith_r3 : (rotateRightWith s b).r3 = s.r3 := rfl
@[simp] theorem rotateRightWith_r4 : (rotateRightWith s b).r4 = s.r4 := rfl
@[simp] theorem rotateRightWith_c : (rotateRightWith s b).c = s.acc.getLsbD 0 := rfl
@[simp] theorem rotateRightWith_pc : (rotateRightWith s b).pc = s.pc := rfl
@[simp] theorem rotateRightWith_pa : (rotateRightWith s b).pa = s.pa := rfl
@[simp] theorem rotateRightWith_stackPc : (rotateRightWith s b).stackPc = s.stackPc := rfl
@[simp] theorem rotateRightWith_stackC : (rotateRightWith s b).stackC = s.stackC := rfl
@[simp] theorem rotateRightWith_tmr : (rotateRightWith s b).tmr = s.tmr := rfl
@[simp] theorem rotateRightWith_ton : (rotateRightWith s b).ton = s.ton := rfl
@[simp] theorem rotateRightWith_tf : (rotateRightWith s b).tf = s.tf := rfl
@[simp] theorem rotateRightWith_ie : (rotateRightWith s b).ie = s.ie := rfl
@[simp] theorem rotateRightWith_extl : (rotateRightWith s b).extl = s.extl := rfl
@[simp] theorem rotateRightWith_ctx : (rotateRightWith s b).ctx = s.ctx := rfl
@[simp] theorem rotateRightWith_halted : (rotateRightWith s b).halted = s.halted := rfl
@[simp] theorem rotateRightWith_sndCh : (rotateRightWith s b).sndCh = s.sndCh := rfl
@[simp] theorem rotateRightWith_sndOn : (rotateRightWith s b).sndOn = s.sndOn := rfl
@[simp] theorem rotateRightWith_sndMode : (rotateRightWith s b).sndMode = s.sndMode := rfl
@[simp] theorem rotateRightWith_sndNote : (rotateRightWith s b).sndNote = s.sndNote := rfl
@[simp] theorem rotateRightWith_bz : (rotateRightWith s b).bz = s.bz := rfl
@[simp] theorem rotateRightWith_bzBar : (rotateRightWith s b).bzBar = s.bzBar := rfl
@[simp] theorem rotateRightWith_ram : (rotateRightWith s b).ram = s.ram := rfl
@[simp] theorem rotateRightWith_rom : (rotateRightWith s b).rom = s.rom := rfl
@[simp] theorem rotateRightWith_ps : (rotateRightWith s b).ps = s.ps := rfl
@[simp] theorem rotateRightWith_pp : (rotateRightWith s b).pp = s.pp := rfl
@[simp] theorem rotateRightWith_resLow : (rotateRightWith s b).resLow = s.resLow := rfl
@[simp] theorem rotateRightWith_cfg : (rotateRightWith s b).cfg = s.cfg := rfl
@[simp] theorem rotateRightWith_turns : (rotateRightWith s b).turns = s.turns := rfl
@[simp] theorem rotateRightWith_draws : (rotateRightWith s b).draws = s.draws := rfl
@[simp] theorem rotateRightWith_resets : (rotateRightWith s b).resets = s.resets := rfl

end rotateRightWithFields

section returnFromStackFields
variable (s : State)

@[simp] theorem returnFromStack_acc : (returnFromStack s).acc = s.acc := rfl
@[simp] theorem returnFromStack_r0 : (returnFromStack s).r0 = s.r0 := rfl
@[simp] theorem returnFromStack_r1 : (returnFromStack s).r1 = s.r1 := rfl
@[simp] theorem returnFromStack_r2 : (returnFromStack s).r2 = s.r2 := rfl
@[simp] theorem returnFromStack_r3 : (returnFromStack s).r3 = s.r3 := rfl
@[simp] theorem returnFromStack_r4 : (returnFromStack s).r4 = s.r4 := rfl
@[simp] theorem returnFromStack_c : (returnFromStack s).c = s.c := rfl
@[simp] theorem returnFromStack_pc : (returnFromStack s).pc = s.stackPc := rfl
@[simp] theorem returnFromStack_pa : (returnFromStack s).pa = s.pa := rfl
@[simp] theorem returnFromStack_stackPc : (returnFromStack s).stackPc = s.stackPc := rfl
@[simp] theorem returnFromStack_stackC : (returnFromStack s).stackC = s.stackC := rfl
@[simp] theorem returnFromStack_tmr : (returnFromStack s).tmr = s.tmr := rfl
@[simp] theorem returnFromStack_ton : (returnFromStack s).ton = s.ton := rfl
@[simp] theorem returnFromStack_tf : (returnFromStack s).tf = s.tf := rfl
@[simp] theorem returnFromStack_ie : (returnFromStack s).ie = s.ie := rfl
@[simp] theorem returnFromStack_extl : (returnFromStack s).extl = s.extl := rfl
@[simp] theorem returnFromStack_ctx : (returnFromStack s).ctx = .main := rfl
@[simp] theorem returnFromStack_halted : (returnFromStack s).halted = s.halted := rfl
@[simp] theorem returnFromStack_sndCh : (returnFromStack s).sndCh = s.sndCh := rfl
@[simp] theorem returnFromStack_sndOn : (returnFromStack s).sndOn = s.sndOn := rfl
@[simp] theorem returnFromStack_sndMode : (returnFromStack s).sndMode = s.sndMode := rfl
@[simp] theorem returnFromStack_sndNote : (returnFromStack s).sndNote = s.sndNote := rfl
@[simp] theorem returnFromStack_bz : (returnFromStack s).bz = s.bz := rfl
@[simp] theorem returnFromStack_bzBar : (returnFromStack s).bzBar = s.bzBar := rfl
@[simp] theorem returnFromStack_ram : (returnFromStack s).ram = s.ram := rfl
@[simp] theorem returnFromStack_rom : (returnFromStack s).rom = s.rom := rfl
@[simp] theorem returnFromStack_ps : (returnFromStack s).ps = s.ps := rfl
@[simp] theorem returnFromStack_pp : (returnFromStack s).pp = s.pp := rfl
@[simp] theorem returnFromStack_resLow : (returnFromStack s).resLow = s.resLow := rfl
@[simp] theorem returnFromStack_cfg : (returnFromStack s).cfg = s.cfg := rfl
@[simp] theorem returnFromStack_turns : (returnFromStack s).turns = s.turns := rfl
@[simp] theorem returnFromStack_draws : (returnFromStack s).draws = s.draws := rfl
@[simp] theorem returnFromStack_resets : (returnFromStack s).resets = s.resets := rfl

end returnFromStackFields

section returnRestoringCarryFields
variable (s : State)

@[simp] theorem returnRestoringCarry_acc : (returnRestoringCarry s).acc = s.acc := rfl
@[simp] theorem returnRestoringCarry_r0 : (returnRestoringCarry s).r0 = s.r0 := rfl
@[simp] theorem returnRestoringCarry_r1 : (returnRestoringCarry s).r1 = s.r1 := rfl
@[simp] theorem returnRestoringCarry_r2 : (returnRestoringCarry s).r2 = s.r2 := rfl
@[simp] theorem returnRestoringCarry_r3 : (returnRestoringCarry s).r3 = s.r3 := rfl
@[simp] theorem returnRestoringCarry_r4 : (returnRestoringCarry s).r4 = s.r4 := rfl
@[simp] theorem returnRestoringCarry_c : (returnRestoringCarry s).c = s.stackC := rfl
@[simp] theorem returnRestoringCarry_pc : (returnRestoringCarry s).pc = s.stackPc := rfl
@[simp] theorem returnRestoringCarry_pa : (returnRestoringCarry s).pa = s.pa := rfl
@[simp] theorem returnRestoringCarry_stackPc : (returnRestoringCarry s).stackPc = s.stackPc := rfl
@[simp] theorem returnRestoringCarry_stackC : (returnRestoringCarry s).stackC = s.stackC := rfl
@[simp] theorem returnRestoringCarry_tmr : (returnRestoringCarry s).tmr = s.tmr := rfl
@[simp] theorem returnRestoringCarry_ton : (returnRestoringCarry s).ton = s.ton := rfl
@[simp] theorem returnRestoringCarry_tf : (returnRestoringCarry s).tf = s.tf := rfl
@[simp] theorem returnRestoringCarry_ie : (returnRestoringCarry s).ie = s.ie := rfl
@[simp] theorem returnRestoringCarry_extl : (returnRestoringCarry s).extl = s.extl := rfl
@[simp] theorem returnRestoringCarry_ctx : (returnRestoringCarry s).ctx = .main := rfl
@[simp] theorem returnRestoringCarry_halted : (returnRestoringCarry s).halted = s.halted := rfl
@[simp] theorem returnRestoringCarry_sndCh : (returnRestoringCarry s).sndCh = s.sndCh := rfl
@[simp] theorem returnRestoringCarry_sndOn : (returnRestoringCarry s).sndOn = s.sndOn := rfl
@[simp] theorem returnRestoringCarry_sndMode : (returnRestoringCarry s).sndMode = s.sndMode := rfl
@[simp] theorem returnRestoringCarry_sndNote : (returnRestoringCarry s).sndNote = s.sndNote := rfl
@[simp] theorem returnRestoringCarry_bz : (returnRestoringCarry s).bz = s.bz := rfl
@[simp] theorem returnRestoringCarry_bzBar : (returnRestoringCarry s).bzBar = s.bzBar := rfl
@[simp] theorem returnRestoringCarry_ram : (returnRestoringCarry s).ram = s.ram := rfl
@[simp] theorem returnRestoringCarry_rom : (returnRestoringCarry s).rom = s.rom := rfl
@[simp] theorem returnRestoringCarry_ps : (returnRestoringCarry s).ps = s.ps := rfl
@[simp] theorem returnRestoringCarry_pp : (returnRestoringCarry s).pp = s.pp := rfl
@[simp] theorem returnRestoringCarry_resLow : (returnRestoringCarry s).resLow = s.resLow := rfl
@[simp] theorem returnRestoringCarry_cfg : (returnRestoringCarry s).cfg = s.cfg := rfl
@[simp] theorem returnRestoringCarry_turns : (returnRestoringCarry s).turns = s.turns := rfl
@[simp] theorem returnRestoringCarry_draws : (returnRestoringCarry s).draws = s.draws := rfl
@[simp] theorem returnRestoringCarry_resets : (returnRestoringCarry s).resets = s.resets := rfl

end returnRestoringCarryFields

section takeInterruptFields
variable (i : IrqSource) (s : State)

@[simp] theorem takeInterrupt_acc : (takeInterrupt i s).acc = s.acc := rfl
@[simp] theorem takeInterrupt_r0 : (takeInterrupt i s).r0 = s.r0 := rfl
@[simp] theorem takeInterrupt_r1 : (takeInterrupt i s).r1 = s.r1 := rfl
@[simp] theorem takeInterrupt_r2 : (takeInterrupt i s).r2 = s.r2 := rfl
@[simp] theorem takeInterrupt_r3 : (takeInterrupt i s).r3 = s.r3 := rfl
@[simp] theorem takeInterrupt_r4 : (takeInterrupt i s).r4 = s.r4 := rfl
@[simp] theorem takeInterrupt_c : (takeInterrupt i s).c = s.c := rfl
@[simp] theorem takeInterrupt_pc : (takeInterrupt i s).pc = entryAddress i := rfl
@[simp] theorem takeInterrupt_pa : (takeInterrupt i s).pa = s.pa := rfl
@[simp] theorem takeInterrupt_stackPc : (takeInterrupt i s).stackPc = s.pc := rfl
@[simp] theorem takeInterrupt_stackC : (takeInterrupt i s).stackC = s.c := rfl
@[simp] theorem takeInterrupt_tmr : (takeInterrupt i s).tmr = s.tmr := rfl
@[simp] theorem takeInterrupt_ton : (takeInterrupt i s).ton = s.ton := rfl
@[simp] theorem takeInterrupt_tf : (takeInterrupt i s).tf = if i = .timer then false else s.tf := rfl
@[simp] theorem takeInterrupt_ie : (takeInterrupt i s).ie = s.ie := rfl
@[simp] theorem takeInterrupt_extl : (takeInterrupt i s).extl = if i = .external then false else s.extl := rfl
@[simp] theorem takeInterrupt_ctx : (takeInterrupt i s).ctx = .isr := rfl
@[simp] theorem takeInterrupt_halted : (takeInterrupt i s).halted = s.halted := rfl
@[simp] theorem takeInterrupt_sndCh : (takeInterrupt i s).sndCh = s.sndCh := rfl
@[simp] theorem takeInterrupt_sndOn : (takeInterrupt i s).sndOn = s.sndOn := rfl
@[simp] theorem takeInterrupt_sndMode : (takeInterrupt i s).sndMode = s.sndMode := rfl
@[simp] theorem takeInterrupt_sndNote : (takeInterrupt i s).sndNote = s.sndNote := rfl
@[simp] theorem takeInterrupt_bz : (takeInterrupt i s).bz = s.bz := rfl
@[simp] theorem takeInterrupt_bzBar : (takeInterrupt i s).bzBar = s.bzBar := rfl
@[simp] theorem takeInterrupt_ram : (takeInterrupt i s).ram = s.ram := rfl
@[simp] theorem takeInterrupt_rom : (takeInterrupt i s).rom = s.rom := rfl
@[simp] theorem takeInterrupt_ps : (takeInterrupt i s).ps = s.ps := rfl
@[simp] theorem takeInterrupt_pp : (takeInterrupt i s).pp = s.pp := rfl
@[simp] theorem takeInterrupt_resLow : (takeInterrupt i s).resLow = s.resLow := rfl
@[simp] theorem takeInterrupt_cfg : (takeInterrupt i s).cfg = s.cfg := rfl
@[simp] theorem takeInterrupt_turns : (takeInterrupt i s).turns = s.turns := rfl
@[simp] theorem takeInterrupt_draws : (takeInterrupt i s).draws = s.draws := rfl
@[simp] theorem takeInterrupt_resets : (takeInterrupt i s).resets = s.resets := rfl

end takeInterruptFields

section wakeUpFields
variable (s : State)

@[simp] theorem wakeUp_acc : (wakeUp s).acc = s.acc := rfl
@[simp] theorem wakeUp_r0 : (wakeUp s).r0 = s.r0 := rfl
@[simp] theorem wakeUp_r1 : (wakeUp s).r1 = s.r1 := rfl
@[simp] theorem wakeUp_r2 : (wakeUp s).r2 = s.r2 := rfl
@[simp] theorem wakeUp_r3 : (wakeUp s).r3 = s.r3 := rfl
@[simp] theorem wakeUp_r4 : (wakeUp s).r4 = s.r4 := rfl
@[simp] theorem wakeUp_c : (wakeUp s).c = s.c := rfl
@[simp] theorem wakeUp_pc : (wakeUp s).pc = s.pc := rfl
@[simp] theorem wakeUp_pa : (wakeUp s).pa = s.pa := rfl
@[simp] theorem wakeUp_stackPc : (wakeUp s).stackPc = s.stackPc := rfl
@[simp] theorem wakeUp_stackC : (wakeUp s).stackC = s.stackC := rfl
@[simp] theorem wakeUp_tmr : (wakeUp s).tmr = s.tmr := rfl
@[simp] theorem wakeUp_ton : (wakeUp s).ton = s.ton := rfl
@[simp] theorem wakeUp_tf : (wakeUp s).tf = s.tf := rfl
@[simp] theorem wakeUp_ie : (wakeUp s).ie = s.ie := rfl
@[simp] theorem wakeUp_extl : (wakeUp s).extl = (s.ie || s.cfg.extlHeldUnderDi) := rfl
@[simp] theorem wakeUp_ctx : (wakeUp s).ctx = s.ctx := rfl
@[simp] theorem wakeUp_halted : (wakeUp s).halted = false := rfl
@[simp] theorem wakeUp_sndCh : (wakeUp s).sndCh = s.sndCh := rfl
@[simp] theorem wakeUp_sndOn : (wakeUp s).sndOn = s.sndOn := rfl
@[simp] theorem wakeUp_sndMode : (wakeUp s).sndMode = s.sndMode := rfl
@[simp] theorem wakeUp_sndNote : (wakeUp s).sndNote = s.sndNote := rfl
@[simp] theorem wakeUp_bz : (wakeUp s).bz = s.bz := rfl
@[simp] theorem wakeUp_bzBar : (wakeUp s).bzBar = s.bzBar := rfl
@[simp] theorem wakeUp_ram : (wakeUp s).ram = s.ram := rfl
@[simp] theorem wakeUp_rom : (wakeUp s).rom = s.rom := rfl
@[simp] theorem wakeUp_ps : (wakeUp s).ps = s.ps := rfl
@[simp] theorem wakeUp_pp : (wakeUp s).pp = s.pp := rfl
@[simp] theorem wakeUp_resLow : (wakeUp s).resLow = s.resLow := rfl
@[simp] theorem wakeUp_cfg : (wakeUp s).cfg = s.cfg := rfl
@[simp] theorem wakeUp_turns : (wakeUp s).turns = s.turns := rfl
@[simp] theorem wakeUp_draws : (wakeUp s).draws = s.draws := rfl
@[simp] theorem wakeUp_resets : (wakeUp s).resets = s.resets := rfl

end wakeUpFields

section releaseResetFields
variable (s : State)

@[simp] theorem releaseReset_acc : (releaseReset s).acc = s.acc := rfl
@[simp] theorem releaseReset_r0 : (releaseReset s).r0 = s.r0 := rfl
@[simp] theorem releaseReset_r1 : (releaseReset s).r1 = s.r1 := rfl
@[simp] theorem releaseReset_r2 : (releaseReset s).r2 = s.r2 := rfl
@[simp] theorem releaseReset_r3 : (releaseReset s).r3 = s.r3 := rfl
@[simp] theorem releaseReset_r4 : (releaseReset s).r4 = s.r4 := rfl
@[simp] theorem releaseReset_c : (releaseReset s).c = s.c := rfl
@[simp] theorem releaseReset_pc : (releaseReset s).pc = s.pc := rfl
@[simp] theorem releaseReset_pa : (releaseReset s).pa = s.pa := rfl
@[simp] theorem releaseReset_stackPc : (releaseReset s).stackPc = s.stackPc := rfl
@[simp] theorem releaseReset_stackC : (releaseReset s).stackC = s.stackC := rfl
@[simp] theorem releaseReset_tmr : (releaseReset s).tmr = s.tmr := rfl
@[simp] theorem releaseReset_ton : (releaseReset s).ton = s.ton := rfl
@[simp] theorem releaseReset_tf : (releaseReset s).tf = s.tf := rfl
@[simp] theorem releaseReset_ie : (releaseReset s).ie = s.ie := rfl
@[simp] theorem releaseReset_extl : (releaseReset s).extl = s.extl := rfl
@[simp] theorem releaseReset_ctx : (releaseReset s).ctx = s.ctx := rfl
@[simp] theorem releaseReset_halted : (releaseReset s).halted = s.halted := rfl
@[simp] theorem releaseReset_sndCh : (releaseReset s).sndCh = s.sndCh := rfl
@[simp] theorem releaseReset_sndOn : (releaseReset s).sndOn = s.sndOn := rfl
@[simp] theorem releaseReset_sndMode : (releaseReset s).sndMode = s.sndMode := rfl
@[simp] theorem releaseReset_sndNote : (releaseReset s).sndNote = s.sndNote := rfl
@[simp] theorem releaseReset_bz : (releaseReset s).bz = s.bz := rfl
@[simp] theorem releaseReset_bzBar : (releaseReset s).bzBar = s.bzBar := rfl
@[simp] theorem releaseReset_ram : (releaseReset s).ram = s.ram := rfl
@[simp] theorem releaseReset_rom : (releaseReset s).rom = s.rom := rfl
@[simp] theorem releaseReset_ps : (releaseReset s).ps = s.ps := rfl
@[simp] theorem releaseReset_pp : (releaseReset s).pp = s.pp := rfl
@[simp] theorem releaseReset_resLow : (releaseReset s).resLow = false := rfl
@[simp] theorem releaseReset_cfg : (releaseReset s).cfg = s.cfg := rfl
@[simp] theorem releaseReset_turns : (releaseReset s).turns = s.turns := rfl
@[simp] theorem releaseReset_draws : (releaseReset s).draws = s.draws := rfl
@[simp] theorem releaseReset_resets : (releaseReset s).resets = s.resets := rfl

end releaseResetFields

section setRegFields
variable (s : State) (r : Reg) (v : Nibble)

@[simp] theorem getReg_setReg (q : Reg) : getReg (setReg s r v) q = if q = r then v else getReg s q := by
  cases r <;> cases q <;> rfl

@[simp] theorem setReg_acc : (setReg s r v).acc = s.acc := by cases r <;> rfl
@[simp] theorem setReg_r0 : (setReg s r v).r0 = if r = .r0 then v else s.r0 := by cases r <;> rfl
@[simp] theorem setReg_r1 : (setReg s r v).r1 = if r = .r1 then v else s.r1 := by cases r <;> rfl
@[simp] theorem setReg_r2 : (setReg s r v).r2 = if r = .r2 then v else s.r2 := by cases r <;> rfl
@[simp] theorem setReg_r3 : (setReg s r v).r3 = if r = .r3 then v else s.r3 := by cases r <;> rfl
@[simp] theorem setReg_r4 : (setReg s r v).r4 = if r = .r4 then v else s.r4 := by cases r <;> rfl
@[simp] theorem setReg_c : (setReg s r v).c = s.c := by cases r <;> rfl
@[simp] theorem setReg_pc : (setReg s r v).pc = s.pc := by cases r <;> rfl
@[simp] theorem setReg_pa : (setReg s r v).pa = s.pa := by cases r <;> rfl
@[simp] theorem setReg_stackPc : (setReg s r v).stackPc = s.stackPc := by cases r <;> rfl
@[simp] theorem setReg_stackC : (setReg s r v).stackC = s.stackC := by cases r <;> rfl
@[simp] theorem setReg_tmr : (setReg s r v).tmr = s.tmr := by cases r <;> rfl
@[simp] theorem setReg_ton : (setReg s r v).ton = s.ton := by cases r <;> rfl
@[simp] theorem setReg_tf : (setReg s r v).tf = s.tf := by cases r <;> rfl
@[simp] theorem setReg_ie : (setReg s r v).ie = s.ie := by cases r <;> rfl
@[simp] theorem setReg_extl : (setReg s r v).extl = s.extl := by cases r <;> rfl
@[simp] theorem setReg_ctx : (setReg s r v).ctx = s.ctx := by cases r <;> rfl
@[simp] theorem setReg_halted : (setReg s r v).halted = s.halted := by cases r <;> rfl
@[simp] theorem setReg_sndCh : (setReg s r v).sndCh = s.sndCh := by cases r <;> rfl
@[simp] theorem setReg_sndOn : (setReg s r v).sndOn = s.sndOn := by cases r <;> rfl
@[simp] theorem setReg_sndMode : (setReg s r v).sndMode = s.sndMode := by cases r <;> rfl
@[simp] theorem setReg_sndNote : (setReg s r v).sndNote = s.sndNote := by cases r <;> rfl
@[simp] theorem setReg_bz : (setReg s r v).bz = s.bz := by cases r <;> rfl
@[simp] theorem setReg_bzBar : (setReg s r v).bzBar = s.bzBar := by cases r <;> rfl
@[simp] theorem setReg_ram : (setReg s r v).ram = s.ram := by cases r <;> rfl
@[simp] theorem setReg_rom : (setReg s r v).rom = s.rom := by cases r <;> rfl
@[simp] theorem setReg_ps : (setReg s r v).ps = s.ps := by cases r <;> rfl
@[simp] theorem setReg_pp : (setReg s r v).pp = s.pp := by cases r <;> rfl
@[simp] theorem setReg_resLow : (setReg s r v).resLow = s.resLow := by cases r <;> rfl
@[simp] theorem setReg_cfg : (setReg s r v).cfg = s.cfg := by cases r <;> rfl
@[simp] theorem setReg_turns : (setReg s r v).turns = s.turns := by cases r <;> rfl
@[simp] theorem setReg_draws : (setReg s r v).draws = s.draws := by cases r <;> rfl
@[simp] theorem setReg_resets : (setReg s r v).resets = s.resets := by cases r <;> rfl

end setRegFields

end Sys2Proof.Machine
end

