-- ==== Sys2Proof/Laws/Ops.lean ====
section
/-! SUPPORT. Sys2Proof/Laws/Ops.lean: for each shared operation, one lemma that says all it can do. Proofs cite these
and do not unfold the operation. -/

namespace Sys2Proof.Machine

/-- withCell goes on exactly with the value of a cell that exists. -/
theorem withCell_eq_next {s t : State} {a : RamAddr} {k : Nibble → State} :
    withCell s a k = .next t ↔ ∃ m, readCell s a = some m ∧ k m = t := by
  unfold withCell; cases readCell s a <;> simp

/-- A cell that exists can be read. -/
theorem readCell_of_exists {s : State} {a : RamAddr} (h : ramExists a = true) : ∃ m, readCell s a = some m := by
  have := readCell_isSome s a
  rw [h] at this
  exact Option.isSome_iff_exists.mp this

/-- Outside the cells that exist nothing can be read. -/
theorem readCell_of_not_exists {s : State} {a : RamAddr} (h : ramExists a = false) : readCell s a = none := by
  simp [readCell, h]

/-- The three cell operations stop with undefinedRam and nothing else, exactly where the cell does not exist. -/
theorem withCell_of_not_exists {s : State} {a : RamAddr} (k : Nibble → State) (h : ramExists a = false) :
    withCell s a k = .fault .undefinedRam := by
  simp [withCell, readCell_of_not_exists h]

theorem storeCell_of_exists {s : State} {a : RamAddr} (v : Nibble) (k : State → State) (h : ramExists a = true) :
    storeCell s a v k = .next (k (setCell s a v)) := by
  simp [storeCell, h]

theorem storeCell_of_not_exists {s : State} {a : RamAddr} (v : Nibble) (k : State → State)
    (h : ramExists a = false) : storeCell s a v k = .fault .undefinedRam := by
  simp [storeCell, h]

theorem storeCell_eq_next {s t : State} {a : RamAddr} {v : Nibble} {k : State → State} :
    storeCell s a v k = .next t ↔ ramExists a = true ∧ k (setCell s a v) = t := by
  unfold storeCell; split <;> simp_all

theorem modifyCell_eq_next {s t : State} {a : RamAddr} {f : Nibble → Nibble} {k : State → State} :
    modifyCell s a f k = .next t ↔ ∃ m, readCell s a = some m ∧ k (setCell s a (f m)) = t := by
  unfold modifyCell; cases readCell s a <;> simp

theorem modifyCell_of_not_exists {s : State} {a : RamAddr} (f : Nibble → Nibble) (k : State → State)
    (h : ramExists a = false) : modifyCell s a f k = .fault .undefinedRam := by
  simp [modifyCell, readCell_of_not_exists h]

/-- A read depends on the RAM list and the reset count alone. -/
theorem readCell_congr {s t : State} (a : RamAddr) (hram : t.ram = s.ram) (hres : t.resets = s.resets) :
    readCell t a = readCell s a := by
  simp only [readCell, hram, hres]

/-- The exact sum as a number. -/
theorem toNat_sum5 (a b : Nibble) (cin : Bool) : (sum5 a b cin).toNat = a.toNat + b.toNat + cin.toNat := by
  have ha := a.isLt
  have hb := b.isLt
  cases cin <;> simp [sum5, BitVec.toNat_add] <;> omega

/-- What a count of the timer can do (60_exceptions.md R240). -/
theorem timerTick_cases (s : State) :
    (s.ton = true ∧ s.halted = false ∧ s.tmr = 0xFF#8 ∧ timerTick s = { s with tmr := 0x00#8, tf := true }) ∨
    (s.ton = true ∧ s.halted = false ∧ s.tmr ≠ 0xFF#8 ∧ timerTick s = { s with tmr := s.tmr + 1#8 }) ∨
    ((s.ton = false ∨ s.halted = true) ∧ timerTick s = s) := by
  unfold timerTick
  cases s.ton <;> cases s.halted <;> by_cases h : s.tmr = 0xFF#8 <;> simp [h]

/-- What the end of a note can do (60_exceptions.md R242). -/
theorem soundNote_cases (s : State) :
    (s.sndOn = true ∧ s.halted = false ∧ s.sndNote = lastNote s.sndCh ∧ s.sndMode = .one ∧
      soundNote s = { s with sndOn := false, sndNote := 0 }) ∨
    (s.sndOn = true ∧ s.halted = false ∧ s.sndNote = lastNote s.sndCh ∧ s.sndMode = .loop ∧
      soundNote s = { s with sndNote := 0 }) ∨
    (s.sndOn = true ∧ s.halted = false ∧ s.sndNote ≠ lastNote s.sndCh ∧
      soundNote s = { s with sndNote := s.sndNote + 1 }) ∨
    ((s.sndOn = false ∨ s.halted = true) ∧ soundNote s = s) := by
  unfold soundNote
  cases s.sndOn <;> cases s.halted <;> by_cases h : s.sndNote = lastNote s.sndCh <;> cases s.sndMode <;> simp [h]

/-- What setting the pins can do (60_exceptions.md R224, R246). -/
theorem setPins_cases (ps pp : InputPort) (s : State) :
    (s.halted = true ∧ wakeEdge s ps pp = true ∧ setPins ps pp s = wakeUp { s with ps := ps, pp := pp }) ∨
    ((s.halted = false ∨ wakeEdge s ps pp = false) ∧ setPins ps pp s = { s with ps := ps, pp := pp }) := by
  unfold setPins
  cases s.halted <;> cases wakeEdge s ps pp <;> simp

/-- What the core's turn can do (60_exceptions.md R226, R251). -/
theorem coreStep_cases (s : State) :
    (coreIdle s = true ∧ coreStep s = .next s) ∨
    (coreIdle s = false ∧ irqAccepted s = true ∧ coreStep s = .next (acceptInterrupt s)) ∨
    (∃ i, coreIdle s = false ∧ irqAccepted s = false ∧ fetch s = some i ∧ coreStep s = exec i s) ∨
    (coreIdle s = false ∧ irqAccepted s = false ∧ fetch s = none ∧ coreStep s = .fault .reservedEncoding) := by
  unfold coreStep
  cases coreIdle s <;> cases irqAccepted s <;> simp
  cases fetch s <;> simp

end Sys2Proof.Machine
end

