-- ==== Sys2Proof/Laws/PerInstr.lean ====
section
/-! SUPPORT. Sys2Proof/Laws/PerInstr.lean: the family of lemmas with one member per instruction. -/

namespace Sys2Proof.Laws.EncodeLength

/-- The encoder writes as many bytes as the instruction is long (30_encoding.md R80). -/
def Statement (i : Instr) : Prop := (encode i).length = i.length

theorem addAAtR1R0 : Statement .addAAtR1R0 := rfl
theorem adcAAtR1R0 : Statement .adcAAtR1R0 := rfl
theorem subAAtR1R0 : Statement .subAAtR1R0 := rfl
theorem sbcAAtR1R0 : Statement .sbcAAtR1R0 := rfl
theorem addAImm (imm : Nibble) : Statement (.addAImm imm) := rfl
theorem subAImm (imm : Nibble) : Statement (.subAImm imm) := rfl
theorem daa : Statement .daa := rfl
theorem andAAtR1R0 : Statement .andAAtR1R0 := rfl
theorem orAAtR1R0 : Statement .orAAtR1R0 := rfl
theorem xorAAtR1R0 : Statement .xorAAtR1R0 := rfl
theorem andAtR1R0A : Statement .andAtR1R0A := rfl
theorem orAtR1R0A : Statement .orAtR1R0A := rfl
theorem xorAtR1R0A : Statement .xorAtR1R0A := rfl
theorem andAImm (imm : Nibble) : Statement (.andAImm imm) := rfl
theorem orAImm (imm : Nibble) : Statement (.orAImm imm) := rfl
theorem xorAImm (imm : Nibble) : Statement (.xorAImm imm) := rfl
theorem incA : Statement .incA := rfl
theorem incR0 : Statement .incR0 := rfl
theorem incR1 : Statement .incR1 := rfl
theorem incR2 : Statement .incR2 := rfl
theorem incR3 : Statement .incR3 := rfl
theorem incR4 : Statement .incR4 := rfl
theorem incAtR1R0 : Statement .incAtR1R0 := rfl
theorem incAtR3R2 : Statement .incAtR3R2 := rfl
theorem decA : Statement .decA := rfl
theorem decR0 : Statement .decR0 := rfl
theorem decR1 : Statement .decR1 := rfl
theorem decR2 : Statement .decR2 := rfl
theorem decR3 : Statement .decR3 := rfl
theorem decR4 : Statement .decR4 := rfl
theorem decAtR1R0 : Statement .decAtR1R0 := rfl
theorem decAtR3R2 : Statement .decAtR3R2 := rfl
theorem movAR0 : Statement .movAR0 := rfl
theorem movAR1 : Statement .movAR1 := rfl
theorem movAR2 : Statement .movAR2 := rfl
theorem movAR3 : Statement .movAR3 := rfl
theorem movAR4 : Statement .movAR4 := rfl
theorem movR0A : Statement .movR0A := rfl
theorem movR1A : Statement .movR1A := rfl
theorem movR2A : Statement .movR2A := rfl
theorem movR3A : Statement .movR3A := rfl
theorem movR4A : Statement .movR4A := rfl
theorem movAAtR1R0 : Statement .movAAtR1R0 := rfl
theorem movAAtR3R2 : Statement .movAAtR3R2 := rfl
theorem movAtR1R0A : Statement .movAtR1R0A := rfl
theorem movAtR3R2A : Statement .movAtR3R2A := rfl
theorem movAImm (imm : Nibble) : Statement (.movAImm imm) := rfl
theorem movR1R0Imm (first : Nibble) (second : Nibble) : Statement (.movR1R0Imm first second) := rfl
theorem movR3R2Imm (first : Nibble) (second : Nibble) : Statement (.movR3R2Imm first second) := rfl
theorem movR4Imm (imm : Nibble) : Statement (.movR4Imm imm) := rfl
theorem rlA : Statement .rlA := rfl
theorem rlcA : Statement .rlcA := rfl
theorem rrA : Statement .rrA := rfl
theorem rrcA : Statement .rrcA := rfl
theorem inAPs : Statement .inAPs := rfl
theorem inAPp : Statement .inAPp := rfl
theorem outPaA : Statement .outPaA := rfl
theorem jmp (addr : PcWord) : Statement (.jmp addr) := rfl
theorem jc (addr : BitVec 11) : Statement (.jc addr) := rfl
theorem jnc (addr : BitVec 11) : Statement (.jnc addr) := rfl
theorem jtmr (addr : BitVec 11) : Statement (.jtmr addr) := rfl
theorem jan (n : BitVec 2) (addr : BitVec 11) : Statement (.jan n addr) := rfl
theorem jzA (addr : BitVec 11) : Statement (.jzA addr) := rfl
theorem jnzA (addr : BitVec 11) : Statement (.jnzA addr) := rfl
theorem jnzR0 (addr : BitVec 11) : Statement (.jnzR0 addr) := rfl
theorem jnzR1 (addr : BitVec 11) : Statement (.jnzR1 addr) := rfl
theorem jnzR4 (addr : BitVec 11) : Statement (.jnzR4 addr) := rfl
theorem call (addr : PcWord) : Statement (.call addr) := rfl
theorem ret : Statement .ret := rfl
theorem reti : Statement .reti := rfl
theorem clc : Statement .clc := rfl
theorem stc : Statement .stc := rfl
theorem ei : Statement .ei := rfl
theorem di : Statement .di := rfl
theorem nop : Statement .nop := rfl
theorem timerImm (imm : Byte) : Statement (.timerImm imm) := rfl
theorem timerOn : Statement .timerOn := rfl
theorem timerOff : Statement .timerOff := rfl
theorem movATmrl : Statement .movATmrl := rfl
theorem movATmrh : Statement .movATmrh := rfl
theorem movTmrlA : Statement .movTmrlA := rfl
theorem movTmrhA : Statement .movTmrhA := rfl
theorem readR4A : Statement .readR4A := rfl
theorem readMr0A : Statement .readMr0A := rfl
theorem readfR4A : Statement .readfR4A := rfl
theorem readfMr0A : Statement .readfMr0A := rfl
theorem soundN (n : Nibble) : Statement (.soundN n) := rfl
theorem soundA : Statement .soundA := rfl
theorem soundOne : Statement .soundOne := rfl
theorem soundLoop : Statement .soundLoop := rfl
theorem soundOff : Statement .soundOff := rfl
theorem halt : Statement .halt := rfl
theorem undefined32H : Statement .undefined32H := rfl
theorem undefined35H : Statement .undefined35H := rfl

end Sys2Proof.Laws.EncodeLength
end

