-- ==== Sys2Proof/Laws/Timing.lean ====
section
/-! SUPPORT. Sys2Proof/Laws/Timing.lean: the ranges that the type of a configuration carries. -/

namespace Sys2Proof.Machine

/-- Every configuration has F_SYS in the range 32 kHz to 1000 kHz (00_scope.md R7). -/
theorem fSysHz_range (c : Config) : 32000 ≤ c.fSysHz ∧ c.fSysHz ≤ 1000000 := by
  have h := c.fSysAbove32kHz.isLt
  unfold Config.fSysHz
  omega

/-- The machine cycle lasts 4 to 125 microseconds (70_reset_and_hazards.md R272). -/
theorem machineCycleNs_range (c : Config) : 4000 ≤ machineCycleNs c ∧ machineCycleNs c ≤ 125000 := by
  obtain ⟨lo, hi⟩ := fSysHz_range c
  have hpos : 0 < c.fSysHz := by omega
  unfold machineCycleNs oscPeriodsPerCycle
  constructor
  · rw [Nat.le_div_iff_mul_le hpos]; omega
  · exact Nat.le_of_lt_succ ((Nat.div_lt_iff_lt_mul hpos).2 (by omega))

end Sys2Proof.Machine
end

