-- ==== Sys2Proof/Tests/Slice0.lean ====
section
/-! SUPPORT. Sys2Proof/Tests/Slice0.lean: tests. Expected values are those of spec/95_test_vectors.md (the vector or the
table is named in each docstring) or are worked out by hand from the rule named there; the words are written out from
the machine codes printed in its section 1.5. Witnesses show that the hypotheses of the statements can be met. -/

namespace Sys2Proof.Tests

open Sys2Proof.Machine

/-- A field, or a few, of the next state. -/
def after {α : Type} (o : Result) (f : State → α) : Option α :=
  match o with
  | .next t => some (f t)
  | _ => none

/-- The fault, if the outcome is one. -/
def faultOf (o : Result) : Option Fault :=
  match o with
  | .fault r => some r
  | _ => none

/-- Strict decoding, as an Option. -/
def reads (bytes : List Byte) : Option (Instr × List Byte) := (decode true bytes).toOption

/-- The reset state with the cell at R1,R0 holding `m`. -/
def mem10 (r1 r0 m : Nibble) : State :=
  { State.reset with r1 := r1, r0 := r0, ram := [((r1 ++ r0).toNat, m)] }

/-- The reset state with the cell at R3,R2 holding `m`. -/
def mem32 (r3 r2 m : Nibble) : State :=
  { State.reset with r3 := r3, r2 := r2, ram := [((r3 ++ r2).toNat, m)] }

/-- The reset state at a program address. -/
def atPc (pc : PcWord) : State := { State.reset with pc := pc }

/-- The reset state of a chip with PAIR_IMM_ORDER = high_first. -/
def highFirst : State := { State.reset with cfg := { Config.default with pairImmOrder := .highFirst } }

/-- The cell at an address. -/
def cell (a : RamAddr) (s : State) : Option Nibble := readCell s a

/-! WellFormed refuses each ill-formed term. -/

/-- First byte 32H is no instruction (30_encoding.md R89). -/
theorem test_undefined32H_ill_formed : Instr.wellFormed .undefined32H = false := by decide

/-- First byte 35H is no instruction (30_encoding.md R89). -/
theorem test_undefined35H_ill_formed : Instr.wellFormed .undefined35H = false := by decide

/-! Every constructor from a word written out. -/

/-- Family arithmetic: the words of 95_test_vectors.md section 1.5. -/
theorem test_decode_arithmetic :
    reads [0b00001001#8] = some (.addAAtR1R0, []) ∧
    reads [0b00001000#8] = some (.adcAAtR1R0, []) ∧
    reads [0b00001011#8] = some (.subAAtR1R0, []) ∧
    reads [0b00001010#8] = some (.sbcAAtR1R0, []) ∧
    reads [0b01000000#8, 0b00000101#8] = some (.addAImm 0b0101#4, []) ∧
    reads [0b01000001#8, 0b00000101#8] = some (.subAImm 0b0101#4, []) ∧
    reads [0b00110110#8] = some (.daa, []) := by
  decide

/-- Family logic: the words of 95_test_vectors.md section 1.5. -/
theorem test_decode_logic :
    reads [0b00011010#8] = some (.andAAtR1R0, []) ∧
    reads [0b00011100#8] = some (.orAAtR1R0, []) ∧
    reads [0b00011011#8] = some (.xorAAtR1R0, []) ∧
    reads [0b00011101#8] = some (.andAtR1R0A, []) ∧
    reads [0b00011111#8] = some (.orAtR1R0A, []) ∧
    reads [0b00011110#8] = some (.xorAtR1R0A, []) ∧
    reads [0b01000010#8, 0b00000101#8] = some (.andAImm 0b0101#4, []) ∧
    reads [0b01000100#8, 0b00000101#8] = some (.orAImm 0b0101#4, []) ∧
    reads [0b01000011#8, 0b00000101#8] = some (.xorAImm 0b0101#4, []) := by
  decide

/-- Family inc dec: the words of 95_test_vectors.md section 1.5. -/
theorem test_decode_inc_dec_a :
    reads [0b00110001#8] = some (.incA, []) ∧
    reads [0b00010000#8] = some (.incR0, []) ∧
    reads [0b00010010#8] = some (.incR1, []) ∧
    reads [0b00010100#8] = some (.incR2, []) ∧
    reads [0b00010110#8] = some (.incR3, []) ∧
    reads [0b00011000#8] = some (.incR4, []) ∧
    reads [0b00001100#8] = some (.incAtR1R0, []) ∧
    reads [0b00001110#8] = some (.incAtR3R2, []) ∧
    reads [0b00111111#8] = some (.decA, []) := by
  decide

/-- Family inc dec: the words of 95_test_vectors.md section 1.5. -/
theorem test_decode_inc_dec_b :
    reads [0b00010001#8] = some (.decR0, []) ∧
    reads [0b00010011#8] = some (.decR1, []) ∧
    reads [0b00010101#8] = some (.decR2, []) ∧
    reads [0b00010111#8] = some (.decR3, []) ∧
    reads [0b00011001#8] = some (.decR4, []) ∧
    reads [0b00001101#8] = some (.decAtR1R0, []) ∧
    reads [0b00001111#8] = some (.decAtR3R2, []) := by
  decide

/-- Family data move: the words of 95_test_vectors.md section 1.5. -/
theorem test_decode_data_move_a :
    reads [0b00100001#8] = some (.movAR0, []) ∧
    reads [0b00100011#8] = some (.movAR1, []) ∧
    reads [0b00100101#8] = some (.movAR2, []) ∧
    reads [0b00100111#8] = some (.movAR3, []) ∧
    reads [0b00101001#8] = some (.movAR4, []) ∧
    reads [0b00100000#8] = some (.movR0A, []) ∧
    reads [0b00100010#8] = some (.movR1A, []) ∧
    reads [0b00100100#8] = some (.movR2A, []) ∧
    reads [0b00100110#8] = some (.movR3A, []) := by
  decide

/-- Family data move: the words of 95_test_vectors.md section 1.5. -/
theorem test_decode_data_move_b :
    reads [0b00101000#8] = some (.movR4A, []) ∧
    reads [0b00000100#8] = some (.movAAtR1R0, []) ∧
    reads [0b00000110#8] = some (.movAAtR3R2, []) ∧
    reads [0b00000101#8] = some (.movAtR1R0A, []) ∧
    reads [0b00000111#8] = some (.movAtR3R2A, []) ∧
    reads [0b01110101#8] = some (.movAImm 0b0101#4, []) ∧
    reads [0b01011010#8, 0b00000011#8] = some (.movR1R0Imm 0b1010#4 0b0011#4, []) ∧
    reads [0b01101010#8, 0b00000011#8] = some (.movR3R2Imm 0b1010#4 0b0011#4, []) ∧
    reads [0b01000110#8, 0b00000101#8] = some (.movR4Imm 0b0101#4, []) := by
  decide

/-- Family rotate io: the words of 95_test_vectors.md section 1.5. -/
theorem test_decode_rotate_io :
    reads [0b00000001#8] = some (.rlA, []) ∧
    reads [0b00000011#8] = some (.rlcA, []) ∧
    reads [0b00000000#8] = some (.rrA, []) ∧
    reads [0b00000010#8] = some (.rrcA, []) ∧
    reads [0b00110011#8] = some (.inAPs, []) ∧
    reads [0b00110100#8] = some (.inAPp, []) ∧
    reads [0b00110000#8] = some (.outPaA, []) := by
  decide

/-- Family branch: the words of 95_test_vectors.md section 1.5. -/
theorem test_decode_branch_a :
    reads [0b11101010#8, 0b10111100#8] = some (.jmp 0b101010111100#12, []) ∧
    reads [0b11000011#8, 0b10000001#8] = some (.jc 0b01110000001#11, []) ∧
    reads [0b11001011#8, 0b10000001#8] = some (.jnc 0b01110000001#11, []) ∧
    reads [0b11010011#8, 0b10000001#8] = some (.jtmr 0b01110000001#11, []) ∧
    reads [0b10011010#8, 0b10111100#8] = some (.jan 0b11#2 0b01010111100#11, []) ∧
    reads [0b10110011#8, 0b10000001#8] = some (.jzA 0b01110000001#11, []) ∧
    reads [0b10111011#8, 0b10000001#8] = some (.jnzA 0b01110000001#11, []) ∧
    reads [0b10100011#8, 0b10000001#8] = some (.jnzR0 0b01110000001#11, []) ∧
    reads [0b10101011#8, 0b10000001#8] = some (.jnzR1 0b01110000001#11, []) := by
  decide

/-- Family branch: the words of 95_test_vectors.md section 1.5. -/
theorem test_decode_branch_b :
    reads [0b11011011#8, 0b10000001#8] = some (.jnzR4 0b01110000001#11, []) := by
  decide

/-- Family subroutine flag: the words of 95_test_vectors.md section 1.5. -/
theorem test_decode_subroutine_flag :
    reads [0b11111010#8, 0b10111100#8] = some (.call 0b101010111100#12, []) ∧
    reads [0b00101110#8] = some (.ret, []) ∧
    reads [0b00101111#8] = some (.reti, []) ∧
    reads [0b00101010#8] = some (.clc, []) ∧
    reads [0b00101011#8] = some (.stc, []) ∧
    reads [0b00101100#8] = some (.ei, []) ∧
    reads [0b00101101#8] = some (.di, []) ∧
    reads [0b00111110#8] = some (.nop, []) := by
  decide

/-- Family timer: the words of 95_test_vectors.md section 1.5. -/
theorem test_decode_timer :
    reads [0b01000111#8, 0b11111110#8] = some (.timerImm 0b11111110#8, []) ∧
    reads [0b00111000#8] = some (.timerOn, []) ∧
    reads [0b00111001#8] = some (.timerOff, []) ∧
    reads [0b00111010#8] = some (.movATmrl, []) ∧
    reads [0b00111011#8] = some (.movATmrh, []) ∧
    reads [0b00111100#8] = some (.movTmrlA, []) ∧
    reads [0b00111101#8] = some (.movTmrhA, []) := by
  decide

/-- Family table read: the words of 95_test_vectors.md section 1.5. -/
theorem test_decode_table_read :
    reads [0b01001100#8] = some (.readR4A, []) ∧
    reads [0b01001110#8] = some (.readMr0A, []) ∧
    reads [0b01001101#8] = some (.readfR4A, []) ∧
    reads [0b01001111#8] = some (.readfMr0A, []) := by
  decide

/-- Family sound halt: the words of 95_test_vectors.md section 1.5. -/
theorem test_decode_sound_halt :
    reads [0b01000101#8, 0b00001100#8] = some (.soundN 0b1100#4, []) ∧
    reads [0b01001011#8] = some (.soundA, []) ∧
    reads [0b01001000#8] = some (.soundOne, []) ∧
    reads [0b01001001#8] = some (.soundLoop, []) ∧
    reads [0b01001010#8] = some (.soundOff, []) ∧
    reads [0b00110111#8, 0b00111110#8] = some (.halt, []) := by
  decide

/-- Family undefined: the words of 95_test_vectors.md section 1.5 (32H, 35H: section 2.13). -/
theorem test_decode_undefined :
    reads [0b00110010#8] = some (.undefined32H, []) ∧
    reads [0b00110101#8] = some (.undefined35H, []) := by
  decide

/-- A reserved second byte is rejected under STRICT_SECOND_BYTE and ignored without it: 46 15 and 37 00
(95_test_vectors.md sections 2.4, 2.11). -/
theorem test_decode_reserved :
    decodePair true 0x46#8 0x15#8 = none ∧ decodePair false 0x46#8 0x15#8 = some (.movR4Imm 0x5#4) ∧
      decodePair true 0x37#8 0x00#8 = none ∧ decodePair false 0x37#8 0x00#8 = some .halt := by
  decide

/-- The bits of a table row: the first byte of a two-byte row is the high half (spec/INDEX.md). -/
theorem test_table_words :
    decodeTableWord 8 0x09 = some .addAAtR1R0 ∧ decodeTableWord 16 0x373E = some .halt ∧
      decodeTableWord 16 0xEABC = some (.jmp 0xABC#12) ∧ decodeTableWord 16 0x4005 = some (.addAImm 0x5#4) := by
  decide

/-! One step of each instruction. -/

/-- 95_test_vectors.md section 2.1, V-ADD. -/
theorem test_addAAtR1R0_carry :
    after (exec .addAAtR1R0 { mem10 0x1#4 0x2#4 0x9#4 with acc := 0x9#4 })
      (fun t => (t.acc, t.c)) = some (0x2#4, true) := by
  decide

/-- 95_test_vectors.md section 2.1, V-ADD. -/
theorem test_addAAtR1R0_ignores_c :
    after (exec .addAAtR1R0 { mem10 0x1#4 0x2#4 0x8#4 with acc := 0x7#4, c := true })
      (fun t => (t.acc, t.c)) = some (0xF#4, false) := by
  decide

/-- 95_test_vectors.md section 2.1, V-ADC. -/
theorem test_adcAAtR1R0_wrap :
    after (exec .adcAAtR1R0 { mem10 0x1#4 0x2#4 0x0#4 with acc := 0xF#4, c := true })
      (fun t => (t.acc, t.c)) = some (0x0#4, true) := by
  decide

/-- 95_test_vectors.md section 2.1, V-ADC. -/
theorem test_adcAAtR1R0_largest :
    after (exec .adcAAtR1R0 { mem10 0x1#4 0x2#4 0xF#4 with acc := 0xF#4, c := true })
      (fun t => (t.acc, t.c)) = some (0xF#4, true) := by
  decide

/-- 95_test_vectors.md section 2.1, V-SUB. -/
theorem test_subAAtR1R0_borrow :
    after (exec .subAAtR1R0 { mem10 0x1#4 0x2#4 0x5#4 with acc := 0x3#4 })
      (fun t => (t.acc, t.c)) = some (0xE#4, false) := by
  decide

/-- 95_test_vectors.md section 2.1, V-SUB. -/
theorem test_subAAtR1R0_equal :
    after (exec .subAAtR1R0 { mem10 0x1#4 0x2#4 0xF#4 with acc := 0xF#4 })
      (fun t => (t.acc, t.c)) = some (0x0#4, true) := by
  decide

/-- 95_test_vectors.md section 2.1, V-SBC. -/
theorem test_sbcAAtR1R0_equal_borrow :
    after (exec .sbcAAtR1R0 { mem10 0x1#4 0x2#4 0x5#4 with acc := 0x5#4, c := false })
      (fun t => (t.acc, t.c)) = some (0xF#4, false) := by
  decide

/-- 95_test_vectors.md section 2.1, V-SBC. -/
theorem test_sbcAAtR1R0_equal :
    after (exec .sbcAAtR1R0 { mem10 0x1#4 0x2#4 0x5#4 with acc := 0x5#4, c := true })
      (fun t => (t.acc, t.c)) = some (0x0#4, true) := by
  decide

/-- 95_test_vectors.md section 2.1, V-ADDI. -/
theorem test_addAImm :
    after (exec (.addAImm 0x1#4) { State.reset with acc := 0xF#4 })
      (fun t => (t.acc, t.c)) = some (0x0#4, true) := by
  decide

/-- 95_test_vectors.md section 2.1, V-SUBI. -/
theorem test_subAImm :
    after (exec (.subAImm 0x1#4) { State.reset with acc := 0x0#4 })
      (fun t => (t.acc, t.c)) = some (0xF#4, false) := by
  decide

/-- 95_test_vectors.md section 2.1, V-DAA. -/
theorem test_daa_greater :
    after (exec .daa { State.reset with acc := 0xA#4 })
      (fun t => (t.acc, t.c)) = some (0x0#4, true) := by
  decide

/-- 95_test_vectors.md section 2.1, V-DAA: the C left is not the carry of ACC + 6. -/
theorem test_daa_carry :
    after (exec .daa { State.reset with acc := 0x9#4, c := true })
      (fun t => (t.acc, t.c)) = some (0xF#4, true) := by
  decide

/-- 95_test_vectors.md section 2.2, row C A. -/
theorem test_andAAtR1R0 :
    after (exec .andAAtR1R0 { mem10 0x1#4 0x2#4 0xA#4 with acc := 0xC#4, c := true })
      (fun t => (t.acc, cell 0x12#8 t, t.c)) = some (0x8#4, some 0xA#4, true) := by
  decide

/-- 95_test_vectors.md section 2.2, row C A. -/
theorem test_andAtR1R0A :
    after (exec .andAtR1R0A { mem10 0x1#4 0x2#4 0xC#4 with acc := 0xA#4 })
      (fun t => (t.acc, cell 0x12#8 t)) = some (0xA#4, some 0x8#4) := by
  decide

/-- 95_test_vectors.md section 2.2, row C A. -/
theorem test_andAImm :
    after (exec (.andAImm 0xA#4) { State.reset with acc := 0xC#4 })
      (fun t => (t.acc, t.c)) = some (0x8#4, false) := by
  decide

/-- 95_test_vectors.md section 2.2, row C A. -/
theorem test_orAAtR1R0 :
    after (exec .orAAtR1R0 { mem10 0x1#4 0x2#4 0xA#4 with acc := 0xC#4, c := true })
      (fun t => (t.acc, cell 0x12#8 t, t.c)) = some (0xE#4, some 0xA#4, true) := by
  decide

/-- 95_test_vectors.md section 2.2, row C A. -/
theorem test_orAtR1R0A :
    after (exec .orAtR1R0A { mem10 0x1#4 0x2#4 0xC#4 with acc := 0xA#4 })
      (fun t => (t.acc, cell 0x12#8 t)) = some (0xA#4, some 0xE#4) := by
  decide

/-- 95_test_vectors.md section 2.2, row C A. -/
theorem test_orAImm :
    after (exec (.orAImm 0xA#4) { State.reset with acc := 0xC#4 })
      (fun t => (t.acc, t.c)) = some (0xE#4, false) := by
  decide

/-- 95_test_vectors.md section 2.2, row C A. -/
theorem test_xorAAtR1R0 :
    after (exec .xorAAtR1R0 { mem10 0x1#4 0x2#4 0xA#4 with acc := 0xC#4, c := true })
      (fun t => (t.acc, cell 0x12#8 t, t.c)) = some (0x6#4, some 0xA#4, true) := by
  decide

/-- 95_test_vectors.md section 2.2, row C A. -/
theorem test_xorAtR1R0A :
    after (exec .xorAtR1R0A { mem10 0x1#4 0x2#4 0xC#4 with acc := 0xA#4 })
      (fun t => (t.acc, cell 0x12#8 t)) = some (0xA#4, some 0x6#4) := by
  decide

/-- 95_test_vectors.md section 2.2, row C A. -/
theorem test_xorAImm :
    after (exec (.xorAImm 0xA#4) { State.reset with acc := 0xC#4 })
      (fun t => (t.acc, t.c)) = some (0x6#4, false) := by
  decide

/-- 95_test_vectors.md section 2.3: wraps, no carry out. -/
theorem test_incA :
    after (exec .incA { State.reset with acc := 0xF#4 })
      (fun t => (t.acc, t.c)) = some (0x0#4, false) := by
  decide

/-- 95_test_vectors.md section 2.3: wraps, no borrow out. -/
theorem test_decA :
    after (exec .decA { State.reset with acc := 0x0#4 })
      (fun t => (t.acc, t.c)) = some (0xF#4, false) := by
  decide

/-- 95_test_vectors.md section 2.3. -/
theorem test_incR0 :
    after (exec .incR0 { State.reset with r0 := 0xF#4, r1 := 0x2#4 })
      (fun t => (t.r0, t.r1)) = some (0x0#4, 0x2#4) := by
  decide

/-- 95_test_vectors.md section 2.3. -/
theorem test_incR1 :
    after (exec .incR1 { State.reset with r1 := 0x9#4, r0 := 0x2#4 })
      (fun t => (t.r1, t.r0)) = some (0xA#4, 0x2#4) := by
  decide

/-- 95_test_vectors.md section 2.3. -/
theorem test_incR2 :
    after (exec .incR2 { State.reset with r2 := 0x7#4, r0 := 0x2#4 })
      (fun t => (t.r2, t.r0)) = some (0x8#4, 0x2#4) := by
  decide

/-- 95_test_vectors.md section 2.3. -/
theorem test_incR3 :
    after (exec .incR3 { State.reset with r3 := 0xF#4, r0 := 0x2#4 })
      (fun t => (t.r3, t.r0)) = some (0x0#4, 0x2#4) := by
  decide

/-- 95_test_vectors.md section 2.3. -/
theorem test_incR4 :
    after (exec .incR4 { State.reset with r4 := 0x0#4, r0 := 0x2#4 })
      (fun t => (t.r4, t.r0)) = some (0x1#4, 0x2#4) := by
  decide

/-- 95_test_vectors.md section 2.3. -/
theorem test_decR0 :
    after (exec .decR0 { State.reset with r0 := 0x0#4, r1 := 0x2#4 })
      (fun t => (t.r0, t.r1)) = some (0xF#4, 0x2#4) := by
  decide

/-- 95_test_vectors.md section 2.3. -/
theorem test_decR1 :
    after (exec .decR1 { State.reset with r1 := 0xA#4, r0 := 0x2#4 })
      (fun t => (t.r1, t.r0)) = some (0x9#4, 0x2#4) := by
  decide

/-- 95_test_vectors.md section 2.3. -/
theorem test_decR2 :
    after (exec .decR2 { State.reset with r2 := 0x8#4, r0 := 0x2#4 })
      (fun t => (t.r2, t.r0)) = some (0x7#4, 0x2#4) := by
  decide

/-- 95_test_vectors.md section 2.3. -/
theorem test_decR3 :
    after (exec .decR3 { State.reset with r3 := 0x0#4, r0 := 0x2#4 })
      (fun t => (t.r3, t.r0)) = some (0xF#4, 0x2#4) := by
  decide

/-- 95_test_vectors.md section 2.3. -/
theorem test_decR4 :
    after (exec .decR4 { State.reset with r4 := 0x1#4, r0 := 0x2#4 })
      (fun t => (t.r4, t.r0)) = some (0x0#4, 0x2#4) := by
  decide

/-- 95_test_vectors.md section 2.3. -/
theorem test_incAtR1R0 :
    after (exec .incAtR1R0 (mem10 0x1#4 0x2#4 0xF#4))
      (fun t => (cell 0x12#8 t, t.c)) = some (some 0x0#4, false) := by
  decide

/-- 95_test_vectors.md section 2.3. -/
theorem test_decAtR1R0 :
    after (exec .decAtR1R0 (mem10 0x1#4 0x2#4 0x0#4))
      (fun t => (cell 0x12#8 t, t.c)) = some (some 0xF#4, false) := by
  decide

/-- 95_test_vectors.md section 2.3. -/
theorem test_incAtR3R2 :
    after (exec .incAtR3R2 (mem32 0x9#4 0xF#4 0x4#4))
      (fun t => cell 0x9F#8 t) = some (some 0x5#4) := by
  decide

/-- 95_test_vectors.md section 2.3. -/
theorem test_decAtR3R2 :
    after (exec .decAtR3R2 (mem32 0xF#4 0xF#4 0x8#4))
      (fun t => cell 0xFF#8 t) = some (some 0x7#4) := by
  decide

/-- 95_test_vectors.md section 2.4, as its row MOV A,R3. -/
theorem test_movAR0 :
    after (exec .movAR0 { State.reset with r0 := 0x6#4 })
      (fun t => (t.acc, t.r0)) = some (0x6#4, 0x6#4) := by
  decide

/-- 95_test_vectors.md section 2.4. -/
theorem test_movR0A :
    after (exec .movR0A { State.reset with acc := 0xE#4 })
      (fun t => (t.r0, t.acc)) = some (0xE#4, 0xE#4) := by
  decide

/-- 95_test_vectors.md section 2.4, as its row MOV A,R3. -/
theorem test_movAR1 :
    after (exec .movAR1 { State.reset with r1 := 0x6#4 })
      (fun t => (t.acc, t.r1)) = some (0x6#4, 0x6#4) := by
  decide

/-- 95_test_vectors.md section 2.4, as its row MOV R0,A. -/
theorem test_movR1A :
    after (exec .movR1A { State.reset with acc := 0xE#4 })
      (fun t => (t.r1, t.acc)) = some (0xE#4, 0xE#4) := by
  decide

/-- 95_test_vectors.md section 2.4, as its row MOV A,R3. -/
theorem test_movAR2 :
    after (exec .movAR2 { State.reset with r2 := 0x6#4 })
      (fun t => (t.acc, t.r2)) = some (0x6#4, 0x6#4) := by
  decide

/-- 95_test_vectors.md section 2.4, as its row MOV R0,A. -/
theorem test_movR2A :
    after (exec .movR2A { State.reset with acc := 0xE#4 })
      (fun t => (t.r2, t.acc)) = some (0xE#4, 0xE#4) := by
  decide

/-- 95_test_vectors.md section 2.4. -/
theorem test_movAR3 :
    after (exec .movAR3 { State.reset with r3 := 0x6#4 })
      (fun t => (t.acc, t.r3)) = some (0x6#4, 0x6#4) := by
  decide

/-- 95_test_vectors.md section 2.4, as its row MOV R0,A. -/
theorem test_movR3A :
    after (exec .movR3A { State.reset with acc := 0xE#4 })
      (fun t => (t.r3, t.acc)) = some (0xE#4, 0xE#4) := by
  decide

/-- 95_test_vectors.md section 2.4, as its row MOV A,R3. -/
theorem test_movAR4 :
    after (exec .movAR4 { State.reset with r4 := 0x6#4 })
      (fun t => (t.acc, t.r4)) = some (0x6#4, 0x6#4) := by
  decide

/-- 95_test_vectors.md section 2.4. -/
theorem test_movR4A :
    after (exec .movR4A { State.reset with acc := 0xE#4 })
      (fun t => (t.r4, t.acc)) = some (0xE#4, 0xE#4) := by
  decide

/-- 95_test_vectors.md section 2.4. -/
theorem test_movAAtR1R0 : after (exec .movAAtR1R0 (mem10 0x9#4 0xF#4 0x3#4)) (fun t => t.acc) = some 0x3#4 := by decide

/-- 95_test_vectors.md section 2.4. -/
theorem test_movAAtR3R2 : after (exec .movAAtR3R2 (mem32 0xB#4 0x0#4 0xC#4)) (fun t => t.acc) = some 0xC#4 := by decide

/-- 95_test_vectors.md section 2.4. -/
theorem test_movAtR1R0A :
    after (exec .movAtR1R0A { State.reset with acc := 0x9#4 })
      (fun t => cell 0x00#8 t) = some (some 0x9#4) := by
  decide

/-- 95_test_vectors.md section 2.4. -/
theorem test_movAtR3R2A :
    after (exec .movAtR3R2A { State.reset with acc := 0x1#4, r3 := 0xF#4, r2 := 0xE#4 })
      (fun t => cell 0xFE#8 t) = some (some 0x1#4) := by
  decide

/-- 95_test_vectors.md section 2.4. -/
theorem test_movAImm : after (exec (.movAImm 0xC#4) State.reset) (fun t => t.acc) = some 0xC#4 := by decide

/-- 95_test_vectors.md section 2.4, bytes 5A 03. -/
theorem test_movR1R0Imm_lowFirst :
    after (exec (.movR1R0Imm 0xA#4 0x3#4) State.reset)
      (fun t => (t.r1, t.r0)) = some (0x3#4, 0xA#4) := by
  decide

/-- 95_test_vectors.md section 2.4, bytes 5A 03. -/
theorem test_movR1R0Imm_highFirst :
    after (exec (.movR1R0Imm 0xA#4 0x3#4) highFirst)
      (fun t => (t.r1, t.r0)) = some (0xA#4, 0x3#4) := by
  decide

/-- 95_test_vectors.md section 2.4, bytes 6E 0F. -/
theorem test_movR3R2Imm_lowFirst :
    after (exec (.movR3R2Imm 0xE#4 0xF#4) State.reset)
      (fun t => (t.r3, t.r2)) = some (0xF#4, 0xE#4) := by
  decide

/-- 95_test_vectors.md section 2.4, bytes 6E 0F. -/
theorem test_movR3R2Imm_highFirst :
    after (exec (.movR3R2Imm 0xE#4 0xF#4) highFirst)
      (fun t => (t.r3, t.r2)) = some (0xE#4, 0xF#4) := by
  decide

/-- 95_test_vectors.md section 2.4. -/
theorem test_movR4Imm : after (exec (.movR4Imm 0x5#4) State.reset) (fun t => t.r4) = some 0x5#4 := by decide

/-- 95_test_vectors.md section 2.5, row 1001. -/
theorem test_rlA_c0 :
    after (exec .rlA { State.reset with acc := 0b1001#4, c := false })
      (fun t => (t.acc, t.c)) = some (0b0011#4, true) := by
  decide

/-- 95_test_vectors.md section 2.5, row 1001. -/
theorem test_rlA_c1 :
    after (exec .rlA { State.reset with acc := 0b1001#4, c := true })
      (fun t => (t.acc, t.c)) = some (0b0011#4, true) := by
  decide

/-- 95_test_vectors.md section 2.5, row 1001. -/
theorem test_rlcA_c0 :
    after (exec .rlcA { State.reset with acc := 0b1001#4, c := false })
      (fun t => (t.acc, t.c)) = some (0b0010#4, true) := by
  decide

/-- 95_test_vectors.md section 2.5, row 1001. -/
theorem test_rlcA_c1 :
    after (exec .rlcA { State.reset with acc := 0b1001#4, c := true })
      (fun t => (t.acc, t.c)) = some (0b0011#4, true) := by
  decide

/-- 95_test_vectors.md section 2.5, row 1001. -/
theorem test_rrA_c0 :
    after (exec .rrA { State.reset with acc := 0b1001#4, c := false })
      (fun t => (t.acc, t.c)) = some (0b1100#4, true) := by
  decide

/-- 95_test_vectors.md section 2.5, row 1001. -/
theorem test_rrA_c1 :
    after (exec .rrA { State.reset with acc := 0b1001#4, c := true })
      (fun t => (t.acc, t.c)) = some (0b1100#4, true) := by
  decide

/-- 95_test_vectors.md section 2.5, row 1001. -/
theorem test_rrcA_c0 :
    after (exec .rrcA { State.reset with acc := 0b1001#4, c := false })
      (fun t => (t.acc, t.c)) = some (0b0100#4, true) := by
  decide

/-- 95_test_vectors.md section 2.5, row 1001. -/
theorem test_rrcA_c1 :
    after (exec .rrcA { State.reset with acc := 0b1001#4, c := true })
      (fun t => (t.acc, t.c)) = some (0b1100#4, true) := by
  decide

/-- 95_test_vectors.md section 2.6. -/
theorem test_inAPs_driven :
    after (exec .inAPs { State.reset with ps := ⟨0b1110#4, 0xF#4⟩ })
      (fun t => t.acc) = some 0xE#4 := by
  decide

/-- 95_test_vectors.md section 2.6: undriven, all pull-high. -/
theorem test_inAPs_pulled : after (exec .inAPs State.reset) (fun t => t.acc) = some 0xF#4 := by decide

/-- 95_test_vectors.md section 2.6. -/
theorem test_inAPp :
    after (exec .inAPp { State.reset with pp := ⟨0b0101#4, 0xF#4⟩ })
      (fun t => t.acc) = some 0x5#4 := by
  decide

/-- 95_test_vectors.md section 2.6. -/
theorem test_outPaA_bank0 :
    after (exec .outPaA { State.reset with acc := 0x5#4, pc := 0x001#12 })
      (fun t => (t.pa, bank t, t.pc)) = some (0b0101#4, 0#1, 0x002#12) := by
  decide

/-- 95_test_vectors.md section 2.6. -/
theorem test_outPaA_wrap :
    after (exec .outPaA { State.reset with acc := 0x8#4, pa := 0x0#4, pc := 0xFFF#12 })
      (fun t => (t.pa, bank t, t.pc)) = some (0b1000#4, 1#1, 0x000#12) := by
  decide

/-- 95_test_vectors.md section 2.7. -/
theorem test_jmp :
    after (exec (.jmp 0x000#12) (atPc 0x456#12))
      (fun t => (t.pc, bank t)) = some (0x000#12, 1#1) := by
  decide

/-- 95_test_vectors.md section 2.7. -/
theorem test_jc_page :
    after (exec (.jc 0x010#11) { State.reset with pc := 0x7FE#12, c := true })
      (fun t => t.pc) = some 0x810#12 := by
  decide

/-- 95_test_vectors.md section 2.7. -/
theorem test_jc_not_taken :
    after (exec (.jc 0x010#11) { State.reset with pc := 0xFFE#12, c := false })
      (fun t => t.pc) = some 0x000#12 := by
  decide

/-- 95_test_vectors.md section 2.7. -/
theorem test_jnc_taken :
    after (exec (.jnc 0x7FF#11) { State.reset with pc := 0x900#12, c := false })
      (fun t => t.pc) = some 0xFFF#12 := by
  decide

/-- 95_test_vectors.md section 2.7. -/
theorem test_jnc_not_taken :
    after (exec (.jnc 0x7FF#11) { State.reset with pc := 0x900#12, c := true })
      (fun t => t.pc) = some 0x902#12 := by
  decide

/-- 95_test_vectors.md section 2.7. -/
theorem test_jtmr_taken :
    after (exec (.jtmr 0x007#11) { State.reset with pc := 0x003#12, tf := true })
      (fun t => (t.pc, t.tf)) = some (0x007#12, false) := by
  decide

/-- 95_test_vectors.md section 2.7. -/
theorem test_jtmr_not_taken :
    after (exec (.jtmr 0x007#11) { State.reset with pc := 0x003#12, tf := false })
      (fun t => (t.pc, t.tf)) = some (0x005#12, false) := by
  decide

/-- 95_test_vectors.md section 2.7. -/
theorem test_jan_taken :
    after (exec (.jan 2#2 0x234#11) { State.reset with pc := 0x000#12, acc := 0b0100#4 })
      (fun t => t.pc) = some 0x234#12 := by
  decide

/-- 95_test_vectors.md section 2.7. -/
theorem test_jan_not_taken :
    after (exec (.jan 2#2 0x234#11) { State.reset with pc := 0x000#12, acc := 0b1011#4 })
      (fun t => t.pc) = some 0x002#12 := by
  decide

/-- 95_test_vectors.md section 2.7. -/
theorem test_jzA_taken :
    after (exec (.jzA 0x010#11) { State.reset with pc := 0x100#12, acc := 0x0#4 })
      (fun t => t.pc) = some 0x010#12 := by
  decide

/-- 95_test_vectors.md section 2.7. -/
theorem test_jzA_not_taken :
    after (exec (.jzA 0x010#11) { State.reset with pc := 0x100#12, acc := 0x8#4 })
      (fun t => t.pc) = some 0x102#12 := by
  decide

/-- 95_test_vectors.md section 2.7. -/
theorem test_jnzA_taken :
    after (exec (.jnzA 0x010#11) { State.reset with pc := 0x100#12, acc := 0x3#4 })
      (fun t => t.pc) = some 0x010#12 := by
  decide

/-- 95_test_vectors.md section 2.7. -/
theorem test_jnzA_not_taken :
    after (exec (.jnzA 0x010#11) { State.reset with pc := 0x100#12, acc := 0x0#4 })
      (fun t => t.pc) = some 0x102#12 := by
  decide

/-- 95_test_vectors.md section 2.7. -/
theorem test_jnzR0_taken :
    after (exec (.jnzR0 0x020#11) { State.reset with pc := 0x030#12, r0 := 0x1#4 })
      (fun t => t.pc) = some 0x020#12 := by
  decide

/-- 95_test_vectors.md section 2.7. -/
theorem test_jnzR0_not_taken :
    after (exec (.jnzR0 0x020#11) { State.reset with pc := 0x030#12, r0 := 0x0#4 })
      (fun t => t.pc) = some 0x032#12 := by
  decide

/-- 95_test_vectors.md section 2.7. -/
theorem test_jnzR1_taken :
    after (exec (.jnzR1 0x100#11) { State.reset with pc := 0x830#12, r1 := 0xF#4 })
      (fun t => t.pc) = some 0x900#12 := by
  decide

/-- 95_test_vectors.md section 2.7. -/
theorem test_jnzR4_taken :
    after (exec (.jnzR4 0x006#11) { State.reset with pc := 0x00C#12, r4 := 0x2#4 })
      (fun t => t.pc) = some 0x006#12 := by
  decide

/-- 95_test_vectors.md section 2.7. -/
theorem test_jnzR4_not_taken :
    after (exec (.jnzR4 0x006#11) { State.reset with pc := 0x00C#12, r4 := 0x0#4 })
      (fun t => t.pc) = some 0x00E#12 := by
  decide

/-- 95_test_vectors.md section 2.8, V-CALL-2. -/
theorem test_call_wrap :
    after (exec (.call 0xFFF#12) { State.reset with pc := 0xFFE#12 })
      (fun t => (t.stackPc, t.pc, t.ctx)) = some (0x000#12, 0xFFF#12, .sub) := by
  decide

/-- 95_test_vectors.md section 2.8, V-CALL-3. -/
theorem test_call_in_sub :
    after (exec (.call 0x200#12) { State.reset with pc := 0x105#12, ctx := .sub, stackPc := 0x002#12 })
      (fun t => (t.stackPc, t.pc, t.ctx)) = some (0x107#12, 0x200#12, .sub) := by
  decide

/-- 95_test_vectors.md section 2.8, V-RET-2. -/
theorem test_ret :
    after (exec .ret { State.reset with stackPc := 0x017#12, ctx := .isr, c := true, stackC := false })
      (fun t => (t.pc, t.ctx, t.c)) = some (0x017#12, .main, true) := by
  decide

/-- 95_test_vectors.md section 2.8, V-RETI-1. -/
theorem test_reti :
    after (exec .reti { State.reset with stackPc := 0x015#12, ctx := .isr, c := false, stackC := true, ie := true })
      (fun t => (t.pc, t.c, t.ctx, t.ie)) = some (0x015#12, true, .main, true) := by
  decide

/-- 95_test_vectors.md section 2.8. -/
theorem test_clc : after (exec .clc { State.reset with c := true }) (fun t => t.c) = some false := by decide

/-- 95_test_vectors.md section 2.8. -/
theorem test_stc : after (exec .stc { State.reset with c := false }) (fun t => t.c) = some true := by decide

/-- 95_test_vectors.md section 2.8. -/
theorem test_ei : after (exec .ei State.reset) (fun t => t.ie) = some true := by decide

/-- 95_test_vectors.md section 2.8. -/
theorem test_di :
    after (exec .di { State.reset with ie := true, tf := true })
      (fun t => (t.ie, t.tf)) = some (false, true) := by
  decide

/-- 95_test_vectors.md section 2.8. -/
theorem test_nop : after (exec .nop (atPc 0x123#12)) (fun t => t) = some (atPc 0x124#12) := by decide

/-- 95_test_vectors.md section 2.9, V-TMR-1. -/
theorem test_timerImm :
    after (exec (.timerImm 0xFE#8) State.reset)
      (fun t => (t.tmr, t.ton, t.tf)) = some (0xFE#8, false, false) := by
  decide

/-- 95_test_vectors.md section 2.9, V-TMR-2. -/
theorem test_timerOn :
    after (exec .timerOn { State.reset with tmr := 0x42#8 })
      (fun t => (t.ton, t.tmr, t.tf)) = some (true, 0x42#8, false) := by
  decide

/-- 95_test_vectors.md section 2.9, V-TMR-3. -/
theorem test_timerOff :
    after (exec .timerOff { State.reset with tmr := 0x42#8, ton := true, tf := true })
      (fun t => (t.ton, t.tmr, t.tf)) = some (false, 0x42#8, true) := by
  decide

/-- 95_test_vectors.md section 2.9, V-TMR-4. -/
theorem test_movATmrl :
    after (exec .movATmrl { State.reset with tmr := 0xA5#8 })
      (fun t => t.acc) = some 0x5#4 := by
  decide

/-- 95_test_vectors.md section 2.9, V-TMR-5. -/
theorem test_movATmrh :
    after (exec .movATmrh { State.reset with tmr := 0xA5#8 })
      (fun t => t.acc) = some 0xA#4 := by
  decide

/-- 95_test_vectors.md section 2.9, V-TMR-6. -/
theorem test_movTmrlA :
    after (exec .movTmrlA { State.reset with tmr := 0xA5#8, acc := 0x0#4 })
      (fun t => t.tmr) = some 0xA0#8 := by
  decide

/-- 95_test_vectors.md section 2.9, V-TMR-7. -/
theorem test_movTmrhA :
    after (exec .movTmrhA { State.reset with tmr := 0xA5#8, acc := 0xF#4 })
      (fun t => t.tmr) = some 0xF5#8 := by
  decide

/-- 95_test_vectors.md section 2.10, V-RD-1. -/
theorem test_readR4A :
    after (exec .readR4A { mem10 0x1#4 0x0#4 0xA#4 with
        acc := 0x5#4
        pc := 0x234#12
        rom := [(0x125A, 0x3C#8)] })
      (fun t => (t.r4, t.acc)) = some (0x3#4, 0xC#4) := by
  decide

/-- 95_test_vectors.md section 2.10, V-RD-5. -/
theorem test_readMr0A_page :
    after (exec .readMr0A { State.reset with pc := 0x2FF#12, rom := [(0x1300, 0x12#8)] })
      (fun t => (cell 0x00#8 t, t.acc, t.pc)) = some (some 0x1#4, 0x2#4, 0x300#12) := by
  decide

/-- 95_test_vectors.md section 2.10, V-RD-6. -/
theorem test_readMr0A_wrap :
    after (exec .readMr0A { State.reset with
        pa := 0x0#4, acc := 0x1#4, r4 := 0x2#4
        pc := 0xFFF#12
        rom := [(0x0012, 0xAB#8)] })
      (fun t => (cell 0x00#8 t, t.acc, t.pc)) = some (some 0xA#4, 0xB#4, 0x000#12) := by
  decide

/-- 95_test_vectors.md section 2.10, V-RD-3. -/
theorem test_readfR4A :
    after (exec .readfR4A { mem10 0x1#4 0x0#4 0xF#4 with acc := 0xF#4, rom := [(0x1FFF, 0x80#8)] })
      (fun t => (t.r4, t.acc)) = some (0x8#4, 0x0#4) := by
  decide

/-- 95_test_vectors.md section 2.10, V-RD-4. -/
theorem test_readfMr0A :
    after (exec .readfMr0A { State.reset with
        acc := 0xA#4, r4 := 0x5#4, r1 := 0x3#4, r0 := 0x3#4
        rom := [(0x1FA5, 0xC3#8)] })
      (fun t => (cell 0x33#8 t, t.acc)) = some (some 0xC#4, 0x3#4) := by
  decide

/-- 95_test_vectors.md section 2.10, V-RD-7. -/
theorem test_readfMr0A_bank0 :
    after (exec .readfMr0A { State.reset with
        pa := 0x0#4, acc := 0xA#4, r4 := 0x5#4
        rom := [(0x0FA5, 0x77#8)] })
      (fun t => (cell 0x00#8 t, t.acc)) = some (some 0x7#4, 0x7#4) := by
  decide

/-- 95_test_vectors.md section 2.11, V-SND-1. -/
theorem test_soundN :
    after (exec (.soundN 0x3#4) State.reset)
      (fun t => (t.sndCh, t.sndOn)) = some (0x3#4, true) := by
  decide

/-- 95_test_vectors.md section 2.11, V-SND-4. -/
theorem test_soundA :
    after (exec .soundA { State.reset with acc := 0xC#4 })
      (fun t => (t.sndCh, t.sndOn)) = some (0xC#4, true) := by
  decide

/-- 95_test_vectors.md section 2.11, V-SND-5. -/
theorem test_soundOne :
    after (exec .soundOne { State.reset with sndMode := .loop })
      (fun t => t.sndMode) = some .one := by
  decide

/-- 95_test_vectors.md section 2.11, V-SND-6. -/
theorem test_soundLoop : after (exec .soundLoop State.reset) (fun t => t.sndMode) = some .loop := by decide

/-- 95_test_vectors.md section 2.11, V-SND-7. -/
theorem test_soundOff :
    after (exec .soundOff { State.reset with sndOn := true })
      (fun t => t.sndOn) = some false := by
  decide

/-- 95_test_vectors.md section 2.11, V-HALT-1. -/
theorem test_halt : after (exec .halt (atPc 0x012#12)) (fun t => (t.pc, t.halted)) = some (0x014#12, true) := by decide

/-- The stops: 95_test_vectors.md section 2.2 V-LOG-4, section 2.3, section 2.8 V-CALL-4, section 2.10 V-RD-8, section
2.13. -/
theorem test_stops :
    faultOf (exec .andAAtR1R0 (mem10 0xA#4 0x3#4 0x0#4)) = some .undefinedRam ∧
      faultOf (exec .incAtR3R2 (mem32 0xA#4 0xF#4 0x0#4)) = some .undefinedRam ∧
      faultOf (exec .readfMr0A (mem10 0xA#4 0x2#4 0x0#4)) = some .undefinedRam ∧
      faultOf (exec (.call 0x100#12) { State.reset with ctx := .isr }) = some .callInIsr ∧
      faultOf (exec .undefined32H State.reset) = some .undefinedOpcode ∧
      faultOf (exec .undefined35H State.reset) = some .undefinedOpcode := by
  decide

/-! One step of the machine. -/

/-- 95_test_vectors.md section 1.2: the first instruction is fetched from 1000H (here JMP 010H, program P5). -/
theorem test_step_from_reset :
    after (step { State.reset with rom := [(0x1000, 0xE0#8), (0x1001, 0x10#8)] }) (fun t => t.pc) = some 0x010#12 := by
  decide

/-- 00_scope.md R12: a two-byte instruction at FFFH takes its second byte from 000H of the same bank. -/
theorem test_step_fetch_wraps :
    after (step { atPc 0xFFF#12 with rom := [(0x1000, 0xBC#8), (0x1FFF, 0xEA#8)] }) (fun t => t.pc) =
      some 0xABC#12 := by
  decide

/-- 95_test_vectors.md section 2.4: 46 15 faults under STRICT_SECOND_BYTE and is MOV R4,5H without it. -/
theorem test_step_second_byte :
    faultOf (step { State.reset with rom := [(0x1000, 0x46#8), (0x1001, 0x15#8)] }) = some .reservedEncoding ∧
      after (step { State.reset with
        rom := [(0x1000, 0x46#8), (0x1001, 0x15#8)]
        cfg := { Config.default with strictSecondByte := false } }) (fun t => t.r4) = some 0x5#4 := by
  decide

/-- 95_test_vectors.md section 2.12, V-INT-1: the timer entry. -/
theorem test_step_timer_entry :
    after (step { atPc 0x017#12 with ie := true, tf := true })
      (fun t => (t.stackPc, t.pc, t.tf, t.ctx, t.ie, t.pa)) =
      some (0x017#12, 0x004#12, false, .isr, true, 0xF#4) := by
  decide

/-- 95_test_vectors.md section 2.12, V-INT-6, timer_first and external_first. -/
theorem test_step_two_pending :
    after (step { State.reset with
        ie := true, tf := true, extl := true, cfg := { Config.default with irqPriority := .timerFirst } })
      (fun t => (t.pc, t.tf, t.extl)) = some (0x004#12, false, true) ∧
    after (step { State.reset with
        ie := true, tf := true, extl := true, cfg := { Config.default with irqPriority := .externalFirst } })
      (fun t => (t.pc, t.tf, t.extl)) = some (0x008#12, true, false) := by
  decide

/-- 95_test_vectors.md section 2.12, V-INT-3, V-INT-4, V-INT-5, V-INT-9: no entry. -/
theorem test_step_no_entry :
    irqAccepted { State.reset with tf := true } = false ∧
      irqAccepted { State.reset with tf := true, ie := true, ctx := .sub } = false ∧
      irqAccepted { State.reset with tf := true, ie := true, ctx := .isr } = false ∧
      irqAccepted { State.reset with tf := true, ie := true, halted := true } = false := by
  decide

/-- 95_test_vectors.md section 2.9, V-TMR-9 and V-TMR-10: overflow, and no reload. -/
theorem test_step_timer_tick :
    after (step { State.reset with ton := true, tmr := 0xFF#8, turns := [.timerTick] })
      (fun t => (t.tmr, t.tf, t.turns)) = some (0x00#8, true, []) ∧
    after (step { State.reset with ton := true, tmr := 0x00#8, tf := true, turns := [.timerTick] })
      (fun t => (t.tmr, t.tf)) = some (0x01#8, true) := by
  decide

/-- 95_test_vectors.md section 2.9, V-TMR-11 and V-TMR-12: no count when off or in HALT mode. -/
theorem test_step_timer_idle :
    after (step { State.reset with tmr := 0xFF#8, turns := [.timerTick] }) (fun t => (t.tmr, t.tf)) =
      some (0xFF#8, false) ∧
    after (step { State.reset with ton := true, halted := true, tmr := 0xFF#8, turns := [.timerTick] })
      (fun t => (t.tmr, t.tf)) = some (0xFF#8, false) := by
  decide

/-- A chip in HALT mode with PS0 high and a turn of the pins due that lowers it. -/
def halted (ie : Bool) : State :=
  { atPc 0x014#12 with
    halted := true, ie := ie, ps := ⟨0xF#4, 0xF#4⟩, turns := [.pins ⟨0xE#4, 0xF#4⟩ ⟨0x0#4, 0x0#4⟩] }

/-- 95_test_vectors.md section 2.11, V-HALT-2: a wake-up under DI holds EXTL and goes on after the HALT. -/
theorem test_step_wake_up :
    after (step (halted false)) (fun t => (t.halted, t.extl, t.pc, irqAccepted t)) =
      some (false, true, 0x014#12, false) := by
  decide

/-- 95_test_vectors.md section 2.11, V-HALT-3: with IE = 1 the next turn of the core is the external entry. -/
theorem test_step_wake_up_entry :
    after (step { wakeUp (halted true) with turns := [] }) (fun t => (t.stackPc, t.pc, t.extl, t.ctx)) =
      some (0x014#12, 0x008#12, false, .isr) := by
  decide

/-- 95_test_vectors.md section 2.11, V-HALT-6: a pin without the option falls, or a pin rises, and nothing else
changes. -/
theorem test_step_no_wake_up :
    after (step { halted true with cfg := { Config.default with wakePs := 0xE#4 } }) (fun t => (t.halted, t.extl)) =
      some (true, false) ∧
    after (step { halted true with ps := ⟨0x0#4, 0xF#4⟩ }) (fun t => (t.halted, t.extl)) = some (true, false) := by
  decide

/-- 95_test_vectors.md section 2.15, V-RST-1. -/
theorem test_step_reset :
    after (step { State.reset with
        pc := 0x123#12, pa := 0x0#4, ton := true, tf := true, ie := true, ctx := .isr, halted := true
        turns := [.resLow] })
      (fun t => (atResetValues t, t.resLow, t.resets)) = some (true, true, 1) := by
  decide

/-- 49_sound_halt.md R206, R208, R209: sound 11 has 32 notes; its last note ends it in ONE mode and restarts it in LOOP
mode. -/
theorem test_step_last_note :
    after (step { State.reset with sndOn := true, sndCh := 0xB#4, sndNote := 31#6, turns := [.soundNote] })
      (fun t => (t.sndOn, t.sndNote)) = some (false, 0#6) ∧
    after (step { State.reset with
        sndOn := true, sndCh := 0xB#4, sndNote := 31#6, sndMode := .loop, turns := [.soundNote] })
      (fun t => (t.sndOn, t.sndNote)) = some (true, 0#6) := by
  decide

/-- 95_test_vectors.md section 2.14, V-MEM-3. -/
theorem test_lcd_cells :
    lcdCell Config.default 0 0 = 0xFE#8 ∧ lcdCell Config.default 0 7 = 0xFF#8 ∧ lcdCell Config.default 1 2 = 0xFC#8 ∧
      lcdCell Config.default 39 0 = 0xB0#8 ∧ lcdCell Config.default 39 4 = 0xB1#8 := by
  decide

/-- 60_exceptions.md R243, R244: a lit crossing is dark in HALT mode, and an open-drain pad floats at 1. -/
theorem test_pads :
    lcdOn (mem10 0xF#4 0xE#4 0x1#4) 0 0 = true ∧ lcdOn { mem10 0xF#4 0xE#4 0x1#4 with halted := true } 0 0 = false ∧
      padPa1 State.reset = .high ∧ padOf .openDrain true = .floating ∧ padOf .openDrain false = .low := by
  decide

/-- 00_scope.md R7, 70_reset_and_hazards.md R272: the ends of the range of F_SYS and their machine cycles. -/
theorem test_system_clock :
    Config.default.fSysHz = 1000000 ∧ machineCycleNs Config.default = 4000 ∧
      ({ Config.default with fSysAbove32kHz := 0 } : Config).fSysHz = 32000 ∧
      machineCycleNs { Config.default with fSysAbove32kHz := 0 } = 125000 := by
  decide

/-- 60_exceptions.md R241: TIMER_N = 4 gives a count every 16 oscillator periods, 4 machine cycles. -/
theorem test_timer_period : oscPeriodsPerTick { Config.default with timerN := .n4 } = 4 * oscPeriodsPerCycle := by
  decide

/-- State.withFetchWord: the placed word is the next instruction, at the last address of a bank too. -/
theorem test_withFetchWord :
    after (step (State.reset.withFetchWord 16 0xEABC)) (fun t => t.pc) = some 0xABC#12 ∧
      after (step ((atPc 0xFFF#12).withFetchWord 16 0x4605)) (fun t => (t.r4, t.pc)) =
        some (0x5#4, 0x001#12) := by
  decide

/-! Witnesses: the hypotheses of the statements, met together. -/

/-- EncodeInvertsStrictDecode, FirstByteFixesLength: lists that decode, at first bytes where the length changes. -/
theorem test_witness_decodes :
    reads [0x36#8] = some (.daa, []) ∧ reads [0x37#8, 0x3E#8] = some (.halt, []) ∧
      reads [0x3F#8, 0x00#8] = some (.decA, [0x00#8]) ∧ reads [0x40#8, 0x00#8] = some (.addAImm 0x0#4, []) ∧
      reads [0x47#8, 0xFF#8] = some (.timerImm 0xFF#8, []) ∧ reads [0x48#8] = some (.soundOne, []) ∧
      reads [0x50#8, 0x00#8] = some (.movR1R0Imm 0x0#4 0x0#4, []) ∧
      reads [0x6F#8, 0x0F#8] = some (.movR3R2Imm 0xF#4 0xF#4, []) ∧ reads [0x7F#8] = some (.movAImm 0xF#4, []) ∧
      reads [0x80#8, 0x00#8] = some (.jan 0#2 0x000#11, []) ∧ reads [0xFF#8, 0xFF#8] = some (.call 0xFFF#12, []) := by
  decide

/-- FirstByteFixesLength, second clause. -/
theorem test_witness_table_read : Instr.isTableRead .readfMr0A = true := by decide

/-- StepRunsDecodedInstruction: both forms of the core's turn, at the reset state and at the last address of a bank. -/
theorem test_witness_step :
    coreTurn State.reset State.reset ∧ coreTurn { atPc 0xFFF#12 with turns := [.core] } (atPc 0xFFF#12) ∧
      instructionAtPc State.reset .rrA ∧ instructionAtPc (atPc 0xFFF#12) .rrA ∧ State.reset.halted = false ∧
      State.reset.resLow = false ∧ irqAccepted State.reset = false :=
  ⟨.inl ⟨rfl, rfl⟩, .inr ⟨[], rfl, rfl⟩, ⟨[0x00#8], rfl⟩, ⟨[0x00#8], rfl⟩, rfl, rfl, rfl⟩

/-- StepRunsDecodedInstruction, second clause. -/
theorem test_witness_step_reserved :
    let s : State := { State.reset with rom := [(0x1000, 0x37#8)] }
    coreTurn s s ∧ irqAccepted s = false ∧
      decode s.cfg.strictSecondByte [romRead s s.pc, romRead s (s.pc + 1#12)] = .error .reservedEncoding :=
  ⟨.inl ⟨rfl, rfl⟩, rfl, rfl⟩

/-- PlacedWordRuns, last clause too. -/
theorem test_witness_placed :
    decodeTableWord 16 0x373E = some .halt ∧ decodeTableWord 8 0x3E = some .nop ∧
      irqAccepted { State.reset with halted := false } = false := by
  decide

/-- ResetLeavesTableValues, ExecutionStartsAtBankOne. -/
theorem test_witness_reset :
    let s : State := { State.reset with pa := 0x0#4, halted := true, turns := [.resLow, .resHigh] }
    ∃ u t, step s = .next u ∧ step u = .next t ∧
      decode s.cfg.strictSecondByte [romByte s.rom 0x1000#13, romByte s.rom 0x1001#13] = .ok (.rrA, [0x00#8]) :=
  ⟨_, _, rfl, rfl, rfl⟩

/-- ExecutionStartsAtBankOne, first clause: a chip held in reset whose RES goes high. -/
theorem test_witness_held_in_reset :
    let s : State := { State.reset with resLow := true, turns := [.resHigh], rom := [(0x1000, 0x3E#8)] }
    MachineInv s ∧ s.resLow = true ∧
      decode s.cfg.strictSecondByte [romByte s.rom 0x1000#13, romByte s.rom 0x1001#13] = .ok (.nop, [0x00#8]) :=
  ⟨⟨by decide, fun _ => by decide, by decide⟩, rfl, rfl⟩

/-- StepKeepsInv: a state that meets the invariant, not the reset state, and its step. -/
theorem test_witness_invariant :
    MachineInv { mem10 0x9#4 0xF#4 0x3#4 with sndOn := true, sndNote := 31#6, turns := [.soundNote] } ∧
      after (step { mem10 0x9#4 0xF#4 0x3#4 with sndOn := true, sndNote := 31#6, turns := [.soundNote] })
        (fun t => t.sndOn) = some false :=
  ⟨⟨by decide, fun h => (nomatch h), by decide⟩, by decide⟩

/-- StepKeepsInv: the invariant is met by a chip held in reset and by full memories' last cells. -/
theorem test_witness_invariant_reset :
    MachineInv { State.reset with resLow := true, ram := [(0x9F, 0x1#4), (0xB0, 0x0#4), (0xFF, 0xF#4)],
                                  rom := [(0x0000, 0x01#8), (0x1FFF, 0xFF#8)] } :=
  ⟨by decide, fun _ => by decide, by decide⟩

/-- The memory forms: cells that are there to be read and stored to, at the ends of both areas. -/
theorem test_witness_cells :
    readCell (mem10 0x0#4 0x0#4 0x5#4) 0x00#8 = some 0x5#4 ∧ readCell (mem10 0x9#4 0xF#4 0x5#4) 0x9F#8 = some 0x5#4 ∧
      readCell (mem10 0xB#4 0x0#4 0x5#4) 0xB0#8 = some 0x5#4 ∧ readCell (mem32 0xF#4 0xF#4 0x5#4) 0xFF#8 = some 0x5#4 ∧
      ramExists 0x9F#8 = true ∧ ramExists 0xB0#8 = true := by
  decide

/-- UndefinedAreaFaults, StopsAreTheNamedFaults: both ends of the undefined area. -/
theorem test_witness_undefined_area :
    Instr.cellAddr .movAAtR1R0 (mem10 0xA#4 0x0#4 0x0#4) = some 0xA0#8 ∧
      Instr.cellAddr .readMr0A (mem10 0xA#4 0xF#4 0x0#4) = some 0xAF#8 ∧
      faultOf (exec .movAAtR1R0 (mem10 0xA#4 0x0#4 0x0#4)) = some .undefinedRam ∧ ramExists 0xA0#8 = false ∧
      ramExists 0xAF#8 = false := by
  decide

/-- RamChangesOnlyWhereStored: a store that completes and an address it does not store to, and a form that stores
nothing. -/
theorem test_witness_stored :
    Instr.storeAddr .movAtR1R0A (mem10 0x9#4 0xF#4 0x5#4) = some 0x9F#8 ∧
      Instr.storeAddr .addAAtR1R0 (mem10 0x9#4 0xF#4 0x5#4) = none ∧
      after (exec .movAtR1R0A (mem10 0x9#4 0xF#4 0x5#4)) (fun t => cell 0x9F#8 t) = some (some 0x0#4) := by
  decide

/-- The frames: an instruction that completes and writes none of the items of the clause. -/
theorem test_witness_frames :
    after (exec .nop State.reset) (fun t => t.pc) = some 0x001#12 ∧ Instr.writesAcc .nop = false ∧
      Instr.writesReg .incR3 .r2 = false ∧ Instr.writesCarry .incA = false ∧ Instr.isCall .nop = false ∧
      Instr.isTimer .nop = false ∧ Instr.isSound .nop = false ∧ Instr.transfersControl .nop = false := by
  decide

/-- OtherBankIsUnreachable: two ROM images that differ in the bank that is not selected. -/
theorem test_witness_other_bank :
    (∀ p : PcWord, romByte [(0x0123, 0x3E#8)] (bank State.reset ++ p) =
      romByte State.reset.rom (bank State.reset ++ p)) ∧ romByte [(0x0123, 0x3E#8)] 0x0123#13 = 0x3E#8 := by
  refine ⟨fun p => ?_, by decide⟩
  have hp : (bank State.reset ++ p).toNat = 4096 + p.toNat := by
    have h : bank State.reset = 1#1 := by decide
    rw [h, BitVec.toNat_append, ← Nat.shiftLeft_add_eq_or_of_lt p.isLt]
    rfl
  have hne : ¬ 0x0123 = (bank State.reset ++ p).toNat := by omega
  simp only [romByte, cellFind, if_neg hne]
  rfl

/-- BcdAdditionIsDecimal: 95_test_vectors.md V-BCD, 8 + 9. -/
theorem test_witness_bcd :
    let s : State := { mem10 0x1#4 0x2#4 0x9#4 with acc := 0x8#4 }
    readCell s (s.r1 ++ s.r0) = some 0x9#4 ∧
      after (exec .adcAAtR1R0 s) (fun t => (t.acc, t.c)) = some (0x1#4, true) ∧
      after (exec .daa { s with acc := 0x1#4, c := true }) (fun t => (t.acc, t.c)) = some (0x7#4, true) := by
  decide

/-- AccumulatorImmediateResult: the ends of the range of bytes, and one-byte instructions of the third clause. -/
theorem test_witness_accumulator_immediate :
    reads [0x70#8] = some (.movAImm 0x0#4, []) ∧ reads [0x7F#8] = some (.movAImm 0xF#4, []) ∧
      Instr.length .rrA = 1 ∧ Instr.wellFormed .rrA = true ∧ Instr.length .readfMr0A = 1 := by
  decide

/-- RegisterImmediateResult: both values of PAIR_IMM_ORDER. -/
theorem test_witness_pair_order :
    State.reset.cfg.pairImmOrder = .lowFirst ∧
      ({ Config.default with pairImmOrder := .highFirst } : Config).pairImmOrder = .highFirst := by
  decide

/-- CallAndReturnResult, NestedCallLosesOuterReturn, InterruptEnableResult: the contexts. -/
theorem test_witness_contexts :
    State.reset.ctx ≠ .isr ∧ ({ State.reset with ctx := .isr } : State).ctx = .isr ∧
      after (exec (.call 0x200#12) { State.reset with ctx := .sub }) (fun t => t.ctx) = some .sub ∧
      after (exec .ei { State.reset with tf := true }) (fun t => irqAccepted t) = some true ∧
      after (exec .ei { State.reset with extl := true }) (fun t => irqAccepted t) = some true := by
  decide

/-- TimerCountResult: the three clauses at the ends of their ranges. -/
theorem test_witness_timer_count :
    let s : State := { State.reset with ton := true, turns := [.timerTick] }
    ({ s with tmr := 0x00#8 } : State).tmr.toNat < 255 ∧ ({ s with tmr := 0xFE#8 } : State).tmr.toNat < 255 ∧
      ({ s with tmr := 0xFF#8 } : State).tmr.toNat = 255 ∧ s.ton = true ∧ s.halted = false ∧
      ({ s with ton := false } : State).ton = false ∧ ({ s with halted := true } : State).halted = true := by
  decide

/-- TimerOverflowsAfterLoadedCounts: k = 1 and k = 256. -/
theorem test_witness_timer_overflow :
    (ticks 1 { State.reset with ton := true, tmr := BitVec.ofNat 8 (256 - 1) }).tf = true ∧
      (BitVec.ofNat 8 (256 - 256) : Byte) = 0x00#8 ∧
      (ticks 1 { State.reset with ton := true, tmr := 0x00#8 }).tf = false := by
  decide

/-- TableReadToR4Result, TableReadToMemoryResult: the cell is there (V-RD-1, V-RD-4). -/
theorem test_witness_table_read_cells :
    readCell (mem10 0x1#4 0x0#4 0xA#4) 0x10#8 = some 0xA#4 ∧ ramExists (0x3#4 ++ 0x3#4 : RamAddr) = true ∧
      romByte [(0x125A, 0x3C#8)] 0x125A#13 = 0x3C#8 := by
  decide

/-- HaltModeIsFrozen, WakeUpResult: a chip in HALT mode whose pin falls, with and without IE. -/
theorem test_witness_halted :
    (halted true).halted = true ∧ (halted true).resLow = false ∧ (halted true).tf = false ∧
      (halted true).ctx = .main ∧ wakeEdge (halted true) ⟨0xE#4, 0xF#4⟩ ⟨0x0#4, 0x0#4⟩ = true ∧
      (halted false).ie = false ∧ wakeEdge (halted true) ⟨0xF#4, 0xF#4⟩ ⟨0x0#4, 0x0#4⟩ = false := by
  decide

/-- WakeUpResult, first clause: pin PS0 falls, and the last pin of PP, which goes from pull-high to a driven
low. -/
theorem test_witness_pin_falls :
    pinFalls ⟨0xF#4, 0xF#4⟩ ⟨0xE#4, 0xF#4⟩ 0xF#4 0xF#4 0 ∧ pinFalls ⟨0x0#4, 0x0#4⟩ ⟨0x0#4, 0x8#4⟩ 0x8#4 0x8#4 3 ∧
      wakeEdge State.reset ⟨0x0#4, 0x0#4⟩ ⟨0x0#4, 0x8#4⟩ = true := by
  refine ⟨⟨?_, ?_, ?_⟩, ⟨?_, ?_, ?_⟩, ?_⟩ <;> decide

/-- WakeUpResult, last clause: the instruction at PC after the wake-up under DI. -/
theorem test_witness_after_wake_up : ∃ t, step (halted false) = .next t ∧ instructionAtPc t .rrA :=
  ⟨_, rfl, [0x00#8], rfl⟩

/-- InterruptEntryResult, SimultaneousInterruptsResult, InterruptIsPrecise, OnlyAcceptedEntryStartsRoutine: the states
at an accepting boundary. -/
theorem test_witness_interrupts :
    irqAccepted { State.reset with ie := true, tf := true } = true ∧
      irqAccepted { State.reset with ie := true, extl := true } = true ∧
      irqAccepted { State.reset with ie := true, tf := true, extl := true } = true ∧
      coreIdle { State.reset with ie := true, tf := true } = false ∧
      after (step { State.reset with ie := true, extl := true }) (fun t => (t.pc, t.ctx)) =
        some (0x008#12, .isr) := by
  decide

/-- OnlyAcceptedEntryStartsRoutine, second and third clause: a running core in a routine, with a source pending. -/
theorem test_witness_in_routine :
    let s : State := { State.reset with ie := true, tf := true, ctx := .isr }
    coreTurn s s ∧ s.halted = false ∧ s.resLow = false ∧ s.ctx ≠ .main ∧ instructionAtPc s .rrA ∧
      after (step s) (fun t => t.ctx) = some .isr :=
  ⟨.inl ⟨rfl, rfl⟩, rfl, rfl, by decide, ⟨[0x00#8], rfl⟩, by decide⟩

/-- SoundEndResult: the notes before the last and at the last, of a short and a long sound, and the first note. -/
theorem test_witness_sound_end :
    let s : State := { State.reset with sndOn := true, turns := [.soundNote] }
    (30#6).toNat + 1 < 32 ∧ (31#6).toNat + 1 = 32 ∧ (63#6).toNat + 1 = 64 ∧ (0xB#4).toNat < 12 ∧ 12 ≤ (0xC#4).toNat ∧
      s.halted = false ∧ s.sndNote = 0#6 ∧ s.sndMode = .one ∧ ({ s with sndMode := .loop } : State).sndMode = .loop ∧
      (notes 1 s).sndOn = true := by
  decide

/-- SimultaneousInterruptsResult under either: the step is one of the two, whichever the free value takes. -/
theorem test_witness_either :
    ∃ t, step { State.reset with ie := true, tf := true, extl := true } = .next t ∧ t.ctx = .isr ∧ t.draws = 1 :=
  ⟨_, rfl, rfl, rfl⟩

/-- LcdMappingIsOneToOne: both directions, and the ends of the display area. -/
theorem test_witness_lcd :
    Config.default.lcdSeg0AtFe = true ∧ lcdCell { Config.default with lcdSeg0AtFe := false } 0 0 = 0xB0#8 ∧
      lcdCell { Config.default with lcdSeg0AtFe := false } 39 7 = 0xFF#8 := by
  decide

end Sys2Proof.Tests
end

section
/-! PROOFS of the increment and decrement family (42_incdec.md): a one-byte row of the opcode map decoded whatever
follows it, the sum of two nibbles as a number modulo 16, and the register forms as one family over the registers. -/

namespace Sys2Proof

/-- A first byte of length 1 with a row in the opcode map decodes to that row, whatever follows (30_encoding.md R80,
R86). -/
theorem decode_of_oneByte {strict : Bool} {b1 : Byte} {rest : List Byte} {i : Instr} (hlen : isTwoByte b1 = false)
    (hrow : decodeOneByte b1 = some i) : decode strict (b1 :: rest) = .ok (i, rest) := by
  simp [decode, hlen, hrow]

end Sys2Proof

namespace Sys2Proof.Machine

/-- The sum of two nibbles wraps modulo 16 (42_incdec.md R120). -/
theorem nibble_add_eq_ofNat (v d : Nibble) : v + d = BitVec.ofNat 4 ((v.toNat + d.toNat) % 16) := by
  apply BitVec.eq_of_toNat_eq
  simp [BitVec.toNat_add]

/-- Moving past a one-byte instruction sets PC and nothing else (00_scope.md R12). -/
theorem advance_one (s : State) : advance 1 s = { s with pc := s.pc + 1#12 } := rfl

/-- A register step writes the sum modulo 16 to its register and moves on. -/
theorem stepReg_eq_ofNat (s : State) (r : Reg) (d : Nibble) :
    stepReg s r d = advance 1 (setReg s r (BitVec.ofNat 4 (((getReg s r).toNat + d.toNat) % 16))) := by
  rw [stepReg, nibble_add_eq_ofNat]

/-- INC Rn by its register. -/
def incReg : Reg → Instr
  | .r0 => .incR0
  | .r1 => .incR1
  | .r2 => .incR2
  | .r3 => .incR3
  | .r4 => .incR4

/-- DEC Rn by its register. -/
def decReg : Reg → Instr
  | .r0 => .decR0
  | .r1 => .decR1
  | .r2 => .decR2
  | .r3 => .decR3
  | .r4 => .decR4

/-- INC Rn is the register step by 1 (42_incdec.md R122). -/
theorem exec_incReg (s : State) (r : Reg) : exec (incReg r) s =
    .next (advance 1 (setReg s r (BitVec.ofNat 4 (((getReg s r).toNat + 1) % 16)))) := by
  have hstep : exec (incReg r) s = .next (stepReg s r 0x1#4) := by cases r <;> rfl
  rw [hstep, stepReg_eq_ofNat]
  rfl

/-- DEC Rn is the register step by 15, that is by -1 modulo 16 (42_incdec.md R126). -/
theorem exec_decReg (s : State) (r : Reg) : exec (decReg r) s =
    .next (advance 1 (setReg s r (BitVec.ofNat 4 (((getReg s r).toNat + 15) % 16)))) := by
  have hstep : exec (decReg r) s = .next (stepReg s r 0xF#4) := by cases r <;> rfl
  rw [hstep, stepReg_eq_ofNat]
  rfl

/-- INC A adds 1 to ACC modulo 16 (42_incdec.md R121). -/
theorem exec_incA (s : State) : exec .incA s =
    .next (advance 1 { s with acc := BitVec.ofNat 4 ((s.acc.toNat + 1) % 16) }) := by
  have hadd : exec .incA s = .next (advance 1 { s with acc := s.acc + 0x1#4 }) := rfl
  rw [hadd, nibble_add_eq_ofNat]
  rfl

/-- DEC A adds 15 to ACC modulo 16 (42_incdec.md R125). -/
theorem exec_decA (s : State) : exec .decA s =
    .next (advance 1 { s with acc := BitVec.ofNat 4 ((s.acc.toNat + 15) % 16) }) := by
  have hadd : exec .decA s = .next (advance 1 { s with acc := s.acc + 0xF#4 }) := rfl
  rw [hadd, nibble_add_eq_ofNat]
  rfl

/-- Settles O30: both bytes are one-byte rows of the opcode map, and the sum of two nibbles is the sum modulo 16. -/
theorem accumulatorIncDecResult : Obligations.AccumulatorIncDecResult := by
  refine ⟨fun strict rest => ⟨decode_of_oneByte rfl rfl, decode_of_oneByte rfl rfl⟩, fun s => ⟨?_, ?_⟩⟩
  · rw [exec_incA, advance_one]
  · rw [exec_decA, advance_one]

/-- Settles O31: the thirteen bytes are one-byte rows of the opcode map, and the meanings are the two register families
at each register. -/
theorem registerIncDecResult : Obligations.RegisterIncDecResult := by
  constructor
  · intro strict rest
    refine ⟨?_, ?_, ?_, ?_, ?_, ?_, ?_, ?_, ?_, ?_, ?_, ?_, ?_⟩ <;> exact decode_of_oneByte rfl rfl
  · exact fun s => ⟨exec_incReg s .r0, exec_decReg s .r0, exec_incReg s .r1, exec_decReg s .r1, exec_incReg s .r2,
      exec_decReg s .r2, exec_incReg s .r3, exec_decReg s .r3, exec_incReg s .r4, exec_decReg s .r4⟩

end Sys2Proof.Machine
end

section
/-! PROOFS of the data move family (43_datamove.md): MOV A,XH as the row of the opcode map that carries its operand in
the first byte, and the instructions of one byte. -/

namespace Sys2Proof

/-- A byte is its two nibbles, the high one first. -/
theorem highNibble_append_lowNibble (b : Byte) : highNibble b ++ lowNibble b = b :=
  (BitVec.extractLsb'_append_extractLsb'_eq_extractLsb' (start₁ := 0) (start₂ := 4) rfl).trans
    BitVec.extractLsb'_eq_self

/-- The bytes 70H..7FH are those with high nibble 7 (30_encoding.md R86). -/
theorem eq_seven_append_lowNibble {b : Byte} (hlo : 0x70 ≤ b.toNat) (hhi : b.toNat ≤ 0x7F) :
    b = 0x7#4 ++ lowNibble b := by
  have hhigh : highNibble b = 0x7#4 := by
    apply BitVec.eq_of_toNat_eq
    simp only [highNibble, BitVec.extractLsb'_toNat, BitVec.toNat_ofNat, Nat.shiftRight_eq_div_pow]
    omega
  rw [← hhigh, highNibble_append_lowNibble]

/-- A first byte with high nibble 7 has length 1 (30_encoding.md R80). -/
theorem isTwoByte_seven_append : ∀ x : Nibble, isTwoByte (0x7#4 ++ x) = false := by decide

/-- A first byte with high nibble 7 is MOV A,XH, its low nibble the operand (30_encoding.md R86). -/
theorem decodeOneByte_seven_append : ∀ x : Nibble, decodeOneByte (0x7#4 ++ x) = some (.movAImm x) := by decide

/-- MOV A,XH decoded from any byte 70H..7FH (43_datamove.md R137). -/
theorem decode_movAImm (strict : Bool) {b : Byte} (rest : List Byte) (hlo : 0x70 ≤ b.toNat) (hhi : b.toNat ≤ 0x7F) :
    decode strict (b :: rest) = .ok (.movAImm (lowNibble b), rest) := by
  have hb := eq_seven_append_lowNibble hlo hhi
  apply decode_of_oneByte
  · rw [hb, isTwoByte_seven_append]
  · rw [← decodeOneByte_seven_append, ← hb]

end Sys2Proof

namespace Sys2Proof.Machine

/-- MOV A,XH loads its operand to ACC and moves on (43_datamove.md R137). -/
theorem exec_movAImm (s : State) (x : Nibble) : exec (.movAImm x) s = .next (advance 1 { s with acc := x }) := rfl

/-- Settles O35: the bytes 70H..7FH are those with high nibble 7, the row of MOV A,XH, and by cases on the instruction
every other one with an operand has two bytes. -/
theorem accumulatorImmediateResult : Obligations.AccumulatorImmediateResult := by
  refine ⟨fun strict b rest => decode_movAImm strict rest, fun s x => ?_, fun i hwf hlen => ?_⟩
  · rw [exec_movAImm, advance_one]
  · cases i with
    | movAImm x => exact .inl ⟨x, rfl⟩
    | undefined32H | undefined35H => exact nomatch hwf
    | addAImm | subAImm | andAImm | orAImm | xorAImm | movR1R0Imm | movR3R2Imm | movR4Imm | jmp | jc | jnc | jtmr | jan
    | jzA | jnzA | jnzR0 | jnzR1 | jnzR4 | call | timerImm | soundN | halt => exact nomatch hlen
    | _ => exact .inr (by decide)

end Sys2Proof.Machine
end

section
/-! PROOFS of the rotate family (44_rotate_io.md): the four bits of a nibble that has taken a bit in at one end, and
the two circular rotates as that move with the bit that leaves. -/

namespace Sys2Proof.Machine

/-- Bit 0 of a nibble moved left is the bit taken in (44_rotate_io.md R146, R147). -/
theorem rotateLeftWith_acc_getLsbD_zero (s : State) (b : Bool) : (rotateLeftWith s b).acc.getLsbD 0 = b :=
  BitVec.getLsbD_append.trans (by simp)

/-- Every bit but the top one of a nibble moved left goes one place up (44_rotate_io.md R146, R147). -/
theorem rotateLeftWith_acc_getLsbD_succ (s : State) (b : Bool) {k : Nat} (hk : k < 3) :
    (rotateLeftWith s b).acc.getLsbD (k + 1) = s.acc.getLsbD k :=
  BitVec.getLsbD_append.trans (by simp [hk])

/-- Bit 3 of a nibble moved right is the bit taken in (44_rotate_io.md R148, R149). -/
theorem rotateRightWith_acc_getLsbD_three (s : State) (b : Bool) : (rotateRightWith s b).acc.getLsbD 3 = b :=
  BitVec.getLsbD_append.trans (by simp)

/-- Every bit but bit 0 of a nibble moved right goes one place down (44_rotate_io.md R148, R149). -/
theorem rotateRightWith_acc_getLsbD_of_lt (s : State) (b : Bool) {k : Nat} (hk : k < 3) :
    (rotateRightWith s b).acc.getLsbD k = s.acc.getLsbD (k + 1) :=
  BitVec.getLsbD_append.trans (by simp [hk, Nat.add_comm])

/-- RL A moves ACC left and takes in the bit that leaves, bit 3 (44_rotate_io.md R146). -/
theorem exec_rlA (s : State) : exec .rlA s = .next (advance 1 (rotateLeftWith s (s.acc.getLsbD 3))) := rfl

/-- RR A moves ACC right and takes in the bit that leaves, bit 0 (44_rotate_io.md R148). -/
theorem exec_rrA (s : State) : exec .rrA s = .next (advance 1 (rotateRightWith s (s.acc.getLsbD 0))) := rfl

/-- Settles O37: both bytes are one-byte rows of the opcode map, and each rotate moves ACC one place, taking in the bit
that leaves; the bits of the moved nibble are those of ACC one place off. -/
theorem rotateResult : Obligations.RotateResult := by
  refine ⟨fun strict rest => ⟨decode_of_oneByte rfl rfl, decode_of_oneByte rfl rfl⟩, fun s => ⟨?_, ?_⟩⟩
  · refine ⟨(rotateLeftWith s (s.acc.getLsbD 3)).acc, ?_, ?_, ?_, ?_, ?_⟩
    · rw [exec_rlA, advance_one]
      rfl
    · exact rotateLeftWith_acc_getLsbD_succ s _ (k := 2) (by decide)
    · exact rotateLeftWith_acc_getLsbD_succ s _ (k := 1) (by decide)
    · exact rotateLeftWith_acc_getLsbD_succ s _ (k := 0) (by decide)
    · exact rotateLeftWith_acc_getLsbD_zero s _
  · refine ⟨(rotateRightWith s (s.acc.getLsbD 0)).acc, ?_, ?_, ?_, ?_, ?_⟩
    · rw [exec_rrA, advance_one]
      rfl
    · exact rotateRightWith_acc_getLsbD_three s _
    · exact rotateRightWith_acc_getLsbD_of_lt s _ (k := 2) (by decide)
    · exact rotateRightWith_acc_getLsbD_of_lt s _ (k := 1) (by decide)
    · exact rotateRightWith_acc_getLsbD_of_lt s _ (k := 0) (by decide)

end Sys2Proof.Machine
end

section
/-! PROOFS of the subroutine and flag family (46_subroutine_flag.md): the carry writers and NOP as one-byte rows of the
opcode map, and the byte of NOP as the second byte of HALT. -/

namespace Sys2Proof

/-- A first byte of length 2 whose pair of bytes has a row decodes to that row, whatever follows (30_encoding.md R80,
R86). -/
theorem decode_of_twoByte {strict : Bool} {b1 b2 : Byte} {rest : List Byte} {i : Instr} (hlen : isTwoByte b1 = true)
    (hrow : decodeTwoByte strict b1 b2 = some i) : decode strict (b1 :: b2 :: rest) = .ok (i, rest) := by
  simp [decode, hlen, hrow]

/-- The second byte 3EH is the one printed for HALT, so the strict reading takes it as the lenient one does
(30_encoding.md R87, decision D6). -/
theorem decodeTwoByte_halt (strict : Bool) : decodeTwoByte strict 0x37#8 0x3E#8 = some .halt := by
  cases strict with
  | false => rfl
  | true => rfl

end Sys2Proof

namespace Sys2Proof.Machine

/-- CLC clears C and moves on (46_subroutine_flag.md R174). -/
theorem exec_clc (s : State) : exec .clc s = .next (advance 1 { s with c := false }) := rfl

/-- STC sets C and moves on (46_subroutine_flag.md R175). -/
theorem exec_stc (s : State) : exec .stc s = .next (advance 1 { s with c := true }) := rfl

/-- NOP moves on (46_subroutine_flag.md R178). -/
theorem exec_nop (s : State) : exec .nop s = .next (advance 1 s) := rfl

/-- Settles O44: both bytes are one-byte rows of the opcode map, and each meaning is its write of C and the move past
one byte. -/
theorem carryInstructionsResult : Obligations.CarryInstructionsResult := by
  refine ⟨fun strict rest => ⟨decode_of_oneByte rfl rfl, decode_of_oneByte rfl rfl⟩, rfl, rfl, rfl, rfl,
    fun s => ⟨?_, ?_⟩⟩
  · rw [exec_clc, advance_one]
  · rw [exec_stc, advance_one]

/-- Settles O45: 3EH and 00H are one-byte rows of the opcode map, 37H opens the two-byte row that 3EH ends, and the
meaning of NOP is the move past one byte alone. -/
theorem nopResult : Obligations.NopResult := by
  refine ⟨fun strict rest => ⟨decode_of_oneByte rfl rfl, decode_of_twoByte rfl (decodeTwoByte_halt strict),
    decode_of_oneByte rfl rfl⟩, rfl, rfl, fun s => ?_⟩
  rw [exec_nop, advance_one]

end Sys2Proof.Machine
end

section
/-! PROOFS of the opcode map (30_encoding.md): every first byte has a row of one of four kinds, a row read back through
the encoder gives its bytes, and so the decoder and the encoder are inverse to each other. -/

namespace Sys2Proof

/-- The high nibble of a byte joined from two. -/
@[simp] theorem highNibble_append (x y : Nibble) : highNibble (x ++ y) = x := BitVec.extractLsb'_append_eq_left

/-- The low nibble of a byte joined from two. -/
@[simp] theorem lowNibble_append (x y : Nibble) : lowNibble (x ++ y) = y := BitVec.extractLsb'_append_eq_right

/-- A first byte is its high nibble, its bit 3 and the three bits that begin an address (30_encoding.md R84). -/
theorem opcodeBits_append : ∀ b : Byte,
    (highNibble b ++ BitVec.ofBool (b.getLsbD 3)) ++ b.extractLsb' 0 3 = b := by
  decide

/-- A first byte 80H..9FH is 100b, two bits and the three bits that begin an address (30_encoding.md R84). -/
theorem janBits_append : ∀ b : Byte, highNibble b = 0x8#4 ∨ highNibble b = 0x9#4 →
    0b100#3 ++ b.extractLsb' 3 2 ++ b.extractLsb' 0 3 = b := by
  decide

/-- The first byte's part of an 11-bit address (30_encoding.md R84). -/
@[simp] theorem addr11_high (b1 b2 : Byte) : (addr11 b1 b2).extractLsb' 8 3 = b1.extractLsb' 0 3 :=
  BitVec.extractLsb'_append_eq_left

/-- The second byte's part of an 11-bit address (30_encoding.md R84). -/
@[simp] theorem addr11_low (b1 b2 : Byte) : (addr11 b1 b2).extractLsb' 0 8 = b2 := BitVec.extractLsb'_append_eq_right

/-- The first byte's part of a 12-bit address (30_encoding.md R84). -/
@[simp] theorem addr12_high (b1 b2 : Byte) : (addr12 b1 b2).extractLsb' 8 4 = lowNibble b1 :=
  BitVec.extractLsb'_append_eq_left

/-- The second byte's part of a 12-bit address (30_encoding.md R84). -/
@[simp] theorem addr12_low (b1 b2 : Byte) : (addr12 b1 b2).extractLsb' 0 8 = b2 := BitVec.extractLsb'_append_eq_right

/-- The first bytes whose second byte carries a nibble: 40H..46H and 50H..6FH, the formats IMM4 and PAIR
(30_encoding.md R82, R83). -/
def hasNibbleRow (b1 : Byte) : Bool := (0x40#8 ≤ b1 && b1 ≤ 0x46#8) || (0x50#8 ≤ b1 && b1 ≤ 0x6F#8)

/-- The first bytes whose second byte is free in all its bits: 47H and 80H..FFH (30_encoding.md R84). -/
def hasFullRow (b1 : Byte) : Bool := b1 == 0x47#8 || 0x80#8 ≤ b1

/-- A two-byte first byte is that of HALT, or has a nibble row or a full row (30_encoding.md R80). -/
theorem isTwoByte_cases : ∀ b1 : Byte, isTwoByte b1 = true →
    b1 = 0x37#8 ∨ hasNibbleRow b1 = true ∨ hasFullRow b1 = true := by
  decide

/-- The first byte of HALT has no nibble row. -/
theorem ne_halt_of_nibbleRow : ∀ b1 : Byte, hasNibbleRow b1 = true → b1 ≠ 0x37#8 := by decide

/-- A first byte with a full row is not that of HALT and has no nibble row. -/
theorem other_kinds_of_fullRow : ∀ b1 : Byte, hasFullRow b1 = true → b1 ≠ 0x37#8 ∧ hasNibbleRow b1 = false := by decide

/-- The first bytes of a nibble row, by the format of their row. -/
theorem hasNibbleRow_cases : ∀ b1 : Byte, hasNibbleRow b1 = true →
    b1 = 0x40#8 ∨ b1 = 0x41#8 ∨ b1 = 0x42#8 ∨ b1 = 0x43#8 ∨ b1 = 0x44#8 ∨ b1 = 0x45#8 ∨ b1 = 0x46#8 ∨
      highNibble b1 = 0x5#4 ∨ highNibble b1 = 0x6#4 := by
  decide

/-- The first bytes of a full row, by their high nibble. -/
theorem hasFullRow_cases : ∀ b1 : Byte, hasFullRow b1 = true →
    b1 = 0x47#8 ∨ (highNibble b1 = 0x8#4 ∨ highNibble b1 = 0x9#4) ∨ highNibble b1 = 0xA#4 ∨ highNibble b1 = 0xB#4 ∨
      highNibble b1 = 0xC#4 ∨ highNibble b1 = 0xD#4 ∨ highNibble b1 = 0xE#4 ∨ highNibble b1 = 0xF#4 := by
  decide

/-- A one-byte row read back through the encoder is its byte (30_encoding.md R86). -/
theorem exists_decodeOneByte_encode {b1 : Byte} (h : isTwoByte b1 = false) :
    ∃ i, decodeOneByte b1 = some i ∧ encode i = [b1] := by
  have hrow : ∀ b : Byte, isTwoByte b = false → (decodeOneByte b).map encode = some [b] := by decide
  exact Option.map_eq_some_iff.1 (hrow b1 h)

/-- The row of HALT rejects every second byte but 3EH, and only when reading strictly (30_encoding.md R87). -/
theorem decodeTwoByte_haltRow (strict : Bool) (b2 : Byte) :
    decodeTwoByte strict 0x37#8 b2 = if strict && b2 != 0x3E#8 then none else some .halt := rfl

/-- A nibble row takes its operand from the second byte, and read back through the encoder it is the first byte and a
second byte with high nibble 0 (30_encoding.md R82, R83). -/
theorem decodeTwoByte_nibbleRow {b1 : Byte} (h : hasNibbleRow b1 = true) :
    ∃ row : Nibble → Instr, (∀ strict b2, decodeTwoByte strict b1 b2 = (secondNibble strict b2).map row) ∧
      ∀ n, encode (row n) = [b1, 0x0#4 ++ n] := by
  have hb := highNibble_append_lowNibble b1
  rcases hasNibbleRow_cases b1 h with rfl | rfl | rfl | rfl | rfl | rfl | rfl | hhi | hhi
  · exact ⟨.addAImm, fun _ _ => rfl, fun _ => rfl⟩
  · exact ⟨.subAImm, fun _ _ => rfl, fun _ => rfl⟩
  · exact ⟨.andAImm, fun _ _ => rfl, fun _ => rfl⟩
  · exact ⟨.xorAImm, fun _ _ => rfl, fun _ => rfl⟩
  · exact ⟨.orAImm, fun _ _ => rfl, fun _ => rfl⟩
  · exact ⟨.soundN, fun _ _ => rfl, fun _ => rfl⟩
  · exact ⟨.movR4Imm, fun _ _ => rfl, fun _ => rfl⟩
  · exact ⟨.movR1R0Imm (lowNibble b1), fun _ _ => by rw [decodeTwoByte, hhi]; rfl, fun n => by rw [encode, ← hhi, hb]⟩
  · exact ⟨.movR3R2Imm (lowNibble b1), fun _ _ => by rw [decodeTwoByte, hhi]; rfl, fun n => by rw [encode, ← hhi, hb]⟩

/-- The row of a high nibble that holds two conditional branches, told apart by bit 3 of the first byte: either one read
back through the encoder is the two bytes (30_encoding.md R84). -/
theorem decodeTwoByte_branchRow {b1 : Byte} {hi : Nibble} {row0 row1 : BitVec 11 → Instr} (b2 : Byte)
    (hrow : ∀ strict, decodeTwoByte strict b1 b2 =
      some (if b1.getLsbD 3 then row1 (addr11 b1 b2) else row0 (addr11 b1 b2)))
    (hhi : highNibble b1 = hi)
    (hrow0 : ∀ a, encode (row0 a) = [(hi ++ 0#1) ++ a.extractLsb' 8 3, a.extractLsb' 0 8])
    (hrow1 : ∀ a, encode (row1 a) = [(hi ++ 1#1) ++ a.extractLsb' 8 3, a.extractLsb' 0 8]) :
    ∃ i, (∀ strict, decodeTwoByte strict b1 b2 = some i) ∧ encode i = [b1, b2] := by
  have hb := opcodeBits_append b1
  refine ⟨_, hrow, ?_⟩
  cases hbit : b1.getLsbD 3 <;> rw [hhi, hbit] at hb
  · exact (hrow0 _).trans (by rw [addr11_high, addr11_low]; exact congrArg (fun b => [b, b2]) hb)
  · exact (hrow1 _).trans (by rw [addr11_high, addr11_low]; exact congrArg (fun b => [b, b2]) hb)

/-- A full row decodes whatever the second byte is, strict or not, and read back through the encoder it is the two
bytes (30_encoding.md R84, R86). -/
theorem decodeTwoByte_fullRow {b1 : Byte} (b2 : Byte) (h : hasFullRow b1 = true) :
    ∃ i, (∀ strict, decodeTwoByte strict b1 b2 = some i) ∧ encode i = [b1, b2] := by
  have hb := highNibble_append_lowNibble b1
  rcases hasFullRow_cases b1 h with rfl | hhi | hhi | hhi | hhi | hhi | hhi | hhi
  · exact ⟨.timerImm b2, fun _ => rfl, rfl⟩
  · refine ⟨.jan (b1.extractLsb' 3 2) (addr11 b1 b2), fun _ => ?_, ?_⟩
    · rcases hhi with hhi | hhi <;> rw [decodeTwoByte, hhi] <;> rfl
    · rw [encode, addr11_high, addr11_low, janBits_append b1 hhi]
  · exact decodeTwoByte_branchRow b2 (fun _ => by rw [decodeTwoByte, hhi]; rfl) hhi (fun _ => rfl) (fun _ => rfl)
  · exact decodeTwoByte_branchRow b2 (fun _ => by rw [decodeTwoByte, hhi]; rfl) hhi (fun _ => rfl) (fun _ => rfl)
  · exact decodeTwoByte_branchRow b2 (fun _ => by rw [decodeTwoByte, hhi]; rfl) hhi (fun _ => rfl) (fun _ => rfl)
  · exact decodeTwoByte_branchRow b2 (fun _ => by rw [decodeTwoByte, hhi]; rfl) hhi (fun _ => rfl) (fun _ => rfl)
  · exact ⟨.jmp (addr12 b1 b2), fun _ => by rw [decodeTwoByte, hhi]; rfl,
      by rw [encode, addr12_high, addr12_low, ← hhi, hb]⟩
  · exact ⟨.call (addr12 b1 b2), fun _ => by rw [decodeTwoByte, hhi]; rfl,
      by rw [encode, addr12_high, addr12_low, ← hhi, hb]⟩

/-- The second nibble of a printed second byte, strict or not (30_encoding.md R82). -/
@[simp] theorem secondNibble_zero_append (strict : Bool) (n : Nibble) : secondNibble strict (0x0#4 ++ n) = some n := by
  simp [secondNibble]

/-- Strict reading takes exactly the second bytes with high nibble 0 (30_encoding.md R82, decision D6). -/
theorem secondNibble_true_eq_some {b2 : Byte} {n : Nibble} : secondNibble true b2 = some n ↔ 0x0#4 ++ n = b2 := by
  constructor
  · intro h
    obtain ⟨hhi, hlo⟩ : highNibble b2 = 0x0#4 ∧ lowNibble b2 = n := by simpa [secondNibble] using h
    rw [← hhi, ← hlo, highNibble_append_lowNibble]
  · rintro rfl
    exact secondNibble_zero_append true n

/-- A two-byte first byte whose five high bits are 10000b or more (30_encoding.md R80). -/
theorem isTwoByte_opcode_append : ∀ (op : BitVec 5) (x : BitVec 3), 0b10000#5 ≤ op → isTwoByte (op ++ x) = true := by
  decide

/-- The high nibble of an address form's first byte is the first four of its five opcode bits. -/
theorem highNibble_opcode_append (op : BitVec 5) (x : BitVec 3) : highNibble (op ++ x) = op.extractLsb' 1 4 :=
  BitVec.extractLsb'_append_eq_of_le (by decide)

/-- The bit number of JAn comes back from its first byte (30_encoding.md R86). -/
theorem janSelect_append (n : BitVec 2) (x : BitVec 3) : (0b100#3 ++ n ++ x).extractLsb' 3 2 = n :=
  (BitVec.extractLsb'_append_eq_of_le (by decide)).trans BitVec.extractLsb'_append_eq_right

/-- Bit 3 of an address form's first byte is the last of its five opcode bits. -/
theorem branchSelect_opcode_append (op : BitVec 5) (x : BitVec 3) : (op ++ x).getLsbD 3 = op.getLsbD 0 :=
  BitVec.getLsbD_append.trans (by simp)

/-- The 11 address bits of a branch come back from its two bytes (30_encoding.md R84). -/
theorem addr11_opcode_append (op : BitVec 5) (a : BitVec 11) :
    addr11 (op ++ a.extractLsb' 8 3) (a.extractLsb' 0 8) = a := by
  rw [addr11, BitVec.extractLsb'_append_eq_right]
  exact (BitVec.extractLsb'_append_extractLsb'_eq_extractLsb' rfl).trans BitVec.extractLsb'_eq_self

/-- The 12 address bits of JMP and CALL come back from their two bytes (30_encoding.md R84). -/
theorem addr12_opcode_append (op : Nibble) (a : PcWord) :
    addr12 (op ++ a.extractLsb' 8 4) (a.extractLsb' 0 8) = a := by
  rw [addr12, BitVec.extractLsb'_append_eq_right]
  exact (BitVec.extractLsb'_append_extractLsb'_eq_extractLsb' rfl).trans BitVec.extractLsb'_eq_self

/-- The bytes of an instruction decode to it, whatever follows: by cases on the row of the opcode map, one-byte rows as
they stand, nibble rows by their second nibble, address rows by their opcode bits and the address that comes back. -/
theorem decode_encode (strict : Bool) (i : Instr) (rest : List Byte) :
    decode strict (encode i ++ rest) = .ok (i, rest) := by
  cases i with
  | addAImm n | subAImm n | andAImm n | orAImm n | xorAImm n | soundN n | movR4Imm n =>
    exact decode_of_twoByte rfl (congrArg (Option.map _) (secondNibble_zero_append strict n))
  | movR1R0Imm x y | movR3R2Imm x y =>
    refine decode_of_twoByte ?_ ?_
    · revert x
      decide
    · rw [decodeTwoByte, highNibble_append, lowNibble_append, secondNibble_zero_append]
      rfl
  | jc a | jnc a | jtmr a | jzA a | jnzA a | jnzR0 a | jnzR1 a | jnzR4 a =>
    refine decode_of_twoByte (isTwoByte_opcode_append _ _ (by decide)) ?_
    rw [decodeTwoByte, highNibble_opcode_append, branchSelect_opcode_append, addr11_opcode_append]
    rfl
  | jan n a =>
    have hge : ∀ n : BitVec 2, 0b10000#5 ≤ 0b100#3 ++ n := by decide
    have hhi : ∀ n : BitVec 2, (0b100#3 ++ n).extractLsb' 1 4 = 0x8#4 ∨ (0b100#3 ++ n).extractLsb' 1 4 = 0x9#4 := by
      decide
    refine decode_of_twoByte (isTwoByte_opcode_append _ _ (hge n)) ?_
    rw [decodeTwoByte, highNibble_opcode_append, janSelect_append, addr11_opcode_append]
    rcases hhi n with h | h <;> rw [h] <;> rfl
  | jmp a | call a =>
    refine decode_of_twoByte ?_ ?_
    · generalize a.extractLsb' 8 4 = x
      revert x
      decide
    · rw [decodeTwoByte, highNibble_append, addr12_opcode_append]
      rfl
  | timerImm x => exact decode_of_twoByte rfl rfl
  | halt => exact decode_of_twoByte rfl (decodeTwoByte_halt strict)
  | movAImm n => exact decode_of_oneByte (isTwoByte_seven_append n) (decodeOneByte_seven_append n)
  | _ => exact decode_of_oneByte rfl rfl

/-- What decoding can answer: a one-byte row at the first byte, or a two-byte row at the first two
(30_encoding.md R80). -/
theorem decode_eq_ok_cases {strict : Bool} {bytes rest : List Byte} {i : Instr}
    (h : decode strict bytes = .ok (i, rest)) :
    (∃ b1, bytes = b1 :: rest ∧ isTwoByte b1 = false ∧ decodeOneByte b1 = some i) ∨
    ∃ b1 b2, bytes = b1 :: b2 :: rest ∧ isTwoByte b1 = true ∧ decodeTwoByte strict b1 b2 = some i := by
  rcases bytes with _ | ⟨b1, tail⟩
  · exact nomatch h
  · cases hlen : isTwoByte b1
    · obtain ⟨j, hrow, -⟩ := exists_decodeOneByte_encode hlen
      rw [decode_of_oneByte hlen hrow] at h
      cases h
      exact .inl ⟨b1, rfl, hlen, hrow⟩
    · rcases tail with _ | ⟨b2, tail⟩
      · simp [decode, hlen] at h
      · cases hrow : decodeTwoByte strict b1 b2 with
        | none => simp [decode, hlen, hrow] at h
        | some j =>
          rw [decode_of_twoByte hlen hrow] at h
          cases h
          exact .inr ⟨b1, b2, rfl, hlen, hrow⟩

/-- A two-byte row that strict decoding answers is, read back through the encoder, its two bytes (30_encoding.md R86,
R87). -/
theorem encode_of_decodeTwoByte_true {b1 b2 : Byte} {i : Instr} (hlen : isTwoByte b1 = true)
    (h : decodeTwoByte true b1 b2 = some i) : encode i = [b1, b2] := by
  rcases isTwoByte_cases b1 hlen with rfl | hkind | hkind
  · obtain ⟨hb2, rfl⟩ : b2 = 0x3E#8 ∧ .halt = i := by simpa [decodeTwoByte_haltRow] using h
    rw [hb2, encode]
  · obtain ⟨row, hrow, hbytes⟩ := decodeTwoByte_nibbleRow hkind
    rw [hrow] at h
    obtain ⟨n, hn, rfl⟩ := Option.map_eq_some_iff.1 h
    rw [hbytes, secondNibble_true_eq_some.1 hn]
  · obtain ⟨j, hrow, hbytes⟩ := decodeTwoByte_fullRow b2 hkind
    rw [hrow] at h
    cases h
    exact hbytes

/-- A one-byte row read back through the encoder is its byte. -/
theorem encode_of_decodeOneByte {b1 : Byte} {i : Instr} (hlen : isTwoByte b1 = false)
    (h : decodeOneByte b1 = some i) : encode i = [b1] := by
  obtain ⟨j, hrow, hbytes⟩ := exists_decodeOneByte_encode hlen
  rw [hrow] at h
  cases h
  exact hbytes

/-- Settles O2: by cases on the rows of the opcode map. -/
theorem decodeInvertsEncode : Obligations.DecodeInvertsEncode := decode_encode

/-- Settles O3: whichever row answered, it gives its bytes back through the encoder. -/
theorem encodeInvertsStrictDecode : Obligations.EncodeInvertsStrictDecode := by
  intro bytes i rest h
  rcases decode_eq_ok_cases h with ⟨b1, rfl, hlen, hrow⟩ | ⟨b1, b2, rfl, hlen, hrow⟩
  · rw [encode_of_decodeOneByte hlen hrow, List.singleton_append]
  · rw [encode_of_decodeTwoByte_true hlen hrow]
    rfl

/-- The encoder writes as many bytes as the instruction is long (30_encoding.md R80). -/
theorem length_encode (i : Instr) : (encode i).length = i.length := by cases i <;> rfl

/-- A one-byte row is an instruction of length 1 (30_encoding.md R80). -/
theorem length_of_decodeOneByte {b1 : Byte} {i : Instr} (hlen : isTwoByte b1 = false)
    (h : decodeOneByte b1 = some i) : i.length = 1 := by
  rw [← length_encode, encode_of_decodeOneByte hlen h]
  rfl

/-- A two-byte row is an instruction of length 2, strict or not (30_encoding.md R80). -/
theorem length_of_decodeTwoByte {strict : Bool} {b1 b2 : Byte} {i : Instr} (hlen : isTwoByte b1 = true)
    (h : decodeTwoByte strict b1 b2 = some i) : i.length = 2 := by
  rcases isTwoByte_cases b1 hlen with rfl | hkind | hkind
  · obtain ⟨-, rfl⟩ : _ ∧ .halt = i := by simpa [decodeTwoByte_haltRow] using h
    rfl
  · obtain ⟨row, hrow, hbytes⟩ := decodeTwoByte_nibbleRow hkind
    rw [hrow] at h
    obtain ⟨n, -, rfl⟩ := Option.map_eq_some_iff.1 h
    rw [← length_encode, hbytes]
    rfl
  · obtain ⟨j, hrow, hbytes⟩ := decodeTwoByte_fullRow b2 hkind
    rw [hrow] at h
    cases h
    rw [← length_encode, hbytes]
    rfl

/-- The two-byte first bytes by their number (30_encoding.md R80). -/
theorem isTwoByte_iff (b1 : Byte) : isTwoByte b1 = true ↔ b1.toNat = 0x37 ∨ (0x40 ≤ b1.toNat ∧ b1.toNat ≤ 0x47) ∨
    (0x50 ≤ b1.toNat ∧ b1.toNat ≤ 0x6F) ∨ 0x80 ≤ b1.toNat := by
  simp [isTwoByte, BitVec.le_def, ← BitVec.toNat_inj, or_assoc]

/-- Settles O4: the row that answered fixes the length, and one-byte rows are there for every other first byte. -/
theorem firstByteFixesLength : Obligations.FirstByteFixesLength := by
  refine ⟨fun strict b1 tail i rest h => ?_, fun strict b1 tail hone => ?_, fun i hread => ?_⟩
  · simp only [← isTwoByte_iff]
    rcases decode_eq_ok_cases h with ⟨b, hbytes, hlen, hrow⟩ | ⟨b, b2, hbytes, hlen, hrow⟩ <;> cases hbytes
    · simp [hlen, length_of_decodeOneByte hlen hrow]
    · simp [hlen, length_of_decodeTwoByte hlen hrow]
  · rw [← isTwoByte_iff, Bool.not_eq_true] at hone
    obtain ⟨i, hrow, -⟩ := exists_decodeOneByte_encode hone
    exact ⟨i, decode_of_oneByte hone hrow⟩
  · cases i with
    | readR4A | readMr0A | readfR4A | readfMr0A => exact ⟨rfl, rfl⟩
    | _ => exact nomatch hread

/-- The second bytes that are rejected, and only when reading strictly: a high nibble other than 0 in a nibble row, and
37H with another byte than 3EH (30_encoding.md R82, R87, decision D6). -/
theorem decodePair_eq_none_iff (strict : Bool) (b1 b2 : Byte) : decodePair strict b1 b2 = none ↔
    strict = true ∧ ((hasNibbleRow b1 = true ∧ highNibble b2 ≠ 0x0#4) ∨ (b1 = 0x37#8 ∧ b2 ≠ 0x3E#8)) := by
  have hone : ∀ b : Byte, isTwoByte b = false → hasNibbleRow b = false ∧ b ≠ 0x37#8 := by decide
  cases hlen : isTwoByte b1
  · obtain ⟨i, hrow, -⟩ := exists_decodeOneByte_encode hlen
    simp [decodePair, hlen, hrow, hone b1 hlen]
  · rcases isTwoByte_cases b1 hlen with rfl | hkind | hkind
    · simp [decodePair, hlen, decodeTwoByte_haltRow, hasNibbleRow]
    · obtain ⟨row, hrow, -⟩ := decodeTwoByte_nibbleRow hkind
      simp [decodePair, hlen, hrow, hkind, ne_halt_of_nibbleRow b1 hkind, secondNibble]
    · obtain ⟨i, hrow, -⟩ := decodeTwoByte_fullRow b2 hkind
      obtain ⟨hhalt, hnibble⟩ := other_kinds_of_fullRow b1 hkind
      simp [decodePair, hlen, hrow, hhalt, hnibble]

/-- Settles O6: the rejected second bytes are those of the rows, and lenient reading rejects none. -/
theorem reservedSecondBytes : Obligations.ReservedSecondBytes := by
  intro b1 b2
  constructor
  · simp [decodePair_eq_none_iff, hasNibbleRow]
  · simp [decodePair_eq_none_iff]

/-- The pair of bytes at PC decodes as the list of the two does (30_encoding.md R93). -/
theorem decode_pair_eq_ok_iff {strict : Bool} {b1 b2 : Byte} {i : Instr} :
    (∃ rest, decode strict [b1, b2] = .ok (i, rest)) ↔ decodePair strict b1 b2 = some i := by
  constructor
  · rintro ⟨rest, h⟩
    rcases decode_eq_ok_cases h with ⟨b, hbytes, hlen, hrow⟩ | ⟨b, b', hbytes, hlen, hrow⟩ <;> cases hbytes
    · simpa [decodePair, hlen] using hrow
    · simpa [decodePair, hlen] using hrow
  · intro h
    cases hlen : isTwoByte b1
    · exact ⟨[b2], decode_of_oneByte hlen (by simpa [decodePair, hlen] using h)⟩
    · exact ⟨[], decode_of_twoByte hlen (by simpa [decodePair, hlen] using h)⟩

/-- A list of two bytes that is rejected for its second byte has no instruction at its head. -/
theorem decodePair_eq_none_of_error {strict : Bool} {b1 b2 : Byte}
    (h : decode strict [b1, b2] = .error .reservedEncoding) : decodePair strict b1 b2 = none := by
  refine Option.eq_none_iff_forall_ne_some.2 fun i hi => ?_
  obtain ⟨rest, hok⟩ := decode_pair_eq_ok_iff.2 hi
  exact nomatch h.symm.trans hok

/-- What strict reading takes, lenient reading takes for the same instruction: the bytes are its encoding. -/
theorem decodePair_of_strict {b1 b2 : Byte} {i : Instr} (strict : Bool) (h : decodePair true b1 b2 = some i) :
    decodePair strict b1 b2 = some i := by
  obtain ⟨rest, hok⟩ := decode_pair_eq_ok_iff.2 h
  have hbytes := encodeInvertsStrictDecode _ _ _ hok
  exact decode_pair_eq_ok_iff.1 ⟨rest, hbytes ▸ decode_encode strict i rest⟩

/-- The two undefined terms are the rows of the first bytes 32H and 35H (30_encoding.md R89, decision D5). -/
theorem wellFormed_eq_false_iff {b1 b2 : Byte} {i : Instr} (h : decodePair true b1 b2 = some i) :
    i.wellFormed = false ↔ b1 = 0x32#8 ∨ b1 = 0x35#8 := by
  constructor
  · obtain ⟨rest, hok⟩ := decode_pair_eq_ok_iff.2 h
    have hbytes := encodeInvertsStrictDecode _ _ _ hok
    intro hwf
    cases i with
    | undefined32H => exact .inl (List.cons.inj hbytes).1.symm
    | undefined35H => exact .inr (List.cons.inj hbytes).1.symm
    | _ => exact nomatch hwf
  · rintro (rfl | rfl) <;> cases h <;> rfl

/-- Settles O5: 3EH completes 37H and 00H every other first byte; what the pair decodes to is read off its encoding. -/
theorem firstByteMapTotal : Obligations.FirstByteMapTotal := by
  intro b1
  have hsome : ∃ b2, decodePair true b1 b2 ≠ none := by
    by_cases h : b1 = 0x37#8
    · exact ⟨0x3E#8, by simp [decodePair_eq_none_iff, h, hasNibbleRow]⟩
    · exact ⟨0x00#8, by simp [decodePair_eq_none_iff, h, highNibble]⟩
  obtain ⟨b2, hb2⟩ := hsome
  obtain ⟨i, hi⟩ := Option.ne_none_iff_exists'.1 hb2
  exact ⟨b2, i, hi, wellFormed_eq_false_iff hi⟩

/-- Settles O1: each word is a row of the opcode map, read bit by bit. -/
theorem decodeReadsPrintedWords : Obligations.DecodeReadsPrintedWords := by
  refine ⟨?_, ?_, ?_, ?_, ?_, ?_, ?_, ?_, ?_, ?_, ?_, ?_, ?_, ?_, ?_, ?_, ?_, ?_⟩
  all_goals rfl

end Sys2Proof
end

section
/-! PROOFS of the arithmetic family (40_arithmetic.md): the carry out of an exact sum as a comparison of numbers, the
subtraction as the addition of 15 - m, and the decimal law from the two. -/

namespace Sys2Proof.Machine

/-- Moving past a two-byte instruction sets PC and nothing else (00_scope.md R12). -/
theorem advance_two (s : State) : advance 2 s = { s with pc := s.pc + 2#12 } := rfl

/-- A cell that can be read goes on with its value. -/
theorem withCell_of_readCell {s : State} {a : RamAddr} {m : Nibble} (k : Nibble → State)
    (h : readCell s a = some m) : withCell s a k = .next (k m) :=
  withCell_eq_next.2 ⟨m, h, rfl⟩

/-- The result of a sum is its low nibble (40_arithmetic.md R100). -/
theorem sum5_low (a b : Nibble) (cin : Bool) :
    (sum5 a b cin).extractLsb' 0 4 = a + b + (if cin then 1#4 else 0#4) := by
  apply BitVec.eq_of_toNat_eq
  rw [BitVec.extractLsb'_toNat, toNat_sum5]
  cases cin <;> simp [BitVec.toNat_add]

/-- The carry of a sum says that the sum of the numbers exceeds 15 (40_arithmetic.md R100, decision D4). -/
theorem sum5_carry (a b : Nibble) (cin : Bool) :
    (sum5 a b cin).getLsbD 4 = decide (16 ≤ a.toNat + b.toNat + cin.toNat) := by
  have hlt := (sum5 a b cin).isLt
  rw [← toNat_sum5, BitVec.getLsbD, Nat.testBit_eq_decide_div_mod_eq, decide_eq_decide]
  omega

/-- 15 - m as a number. -/
theorem toNat_complement (m : Nibble) : (0xF#4 - m).toNat = 15 - m.toNat := by
  have := m.isLt
  simp [BitVec.toNat_sub]
  omega

/-- An addition to ACC: the sum modulo 16, and C when it exceeds 15 (40_arithmetic.md R101, R102, R105). -/
theorem addToAcc_eq (s : State) (m : Nibble) (cin : Bool) : addToAcc s m cin =
    { s with acc := s.acc + m + (if cin then 1#4 else 0#4), c := decide (16 ≤ s.acc.toNat + m.toNat + cin.toNat) } := by
  rw [addToAcc, writeSum, sum5_low, sum5_carry]

/-- A subtraction from ACC: the difference modulo 16, less 1 without the carry-in, and C when there is no borrow
(40_arithmetic.md R103, R104, R106, decision D4). -/
theorem subFromAcc_eq (s : State) (m : Nibble) (cin : Bool) : subFromAcc s m cin =
    { s with
      acc := s.acc - m - (if cin then 0#4 else 1#4)
      c := decide (m.toNat + (!cin).toNat ≤ s.acc.toNat) } := by
  have hacc : s.acc + (0xF#4 - m) + (if cin then 1#4 else 0#4) = s.acc - m - (if cin then 0#4 else 1#4) := by
    cases cin <;> simp <;> bv_omega
  have hc : decide (16 ≤ s.acc.toNat + (0xF#4 - m).toNat + cin.toNat) =
      decide (m.toNat + (!cin).toNat ≤ s.acc.toNat) := by
    have := m.isLt
    rw [toNat_complement, decide_eq_decide]
    cases cin <;> simp <;> omega
  rw [subFromAcc, writeSum, sum5_low, sum5_carry, hacc, hc]

/-- Settles O24: each form is its addition or subtraction on the cell's value, and the move past one byte. -/
theorem arithmeticWithMemoryResult : Obligations.ArithmeticWithMemoryResult := by
  intro s m hm
  have hread : ∀ k, withCell s (pairR1R0 s) k = .next (k m) := fun k => withCell_of_readCell k hm
  refine ⟨?_, ?_, ?_, ?_⟩
  · refine (hread _).trans ?_
    rw [addToAcc_eq, advance_one]
    simp
  · refine (hread _).trans ?_
    rw [addToAcc_eq, advance_one]
    cases s.c <;> rfl
  · refine (hread _).trans ?_
    rw [subFromAcc_eq, advance_one]
    simp
  · refine (hread _).trans ?_
    rw [subFromAcc_eq, advance_one]
    cases s.c <;> rfl

/-- Settles O25: the same addition and subtraction on the immediate, and the move past two bytes. -/
theorem arithmeticWithImmediateResult : Obligations.ArithmeticWithImmediateResult := by
  intro s x
  have hadd : exec (.addAImm x) s = .next (advance 2 (addToAcc s x false)) := rfl
  have hsub : exec (.subAImm x) s = .next (advance 2 (subFromAcc s x true)) := rfl
  constructor
  · rw [hadd, addToAcc_eq, advance_two]
    simp
  · rw [hsub, subFromAcc_eq, advance_two]
    simp

/-- DAA adds 6 and sets C where ACC is no digit or C is set (40_arithmetic.md R107). -/
theorem exec_daa (s : State) : exec .daa s = .next { s with
    acc := if 9 < s.acc.toNat ∨ s.c = true then s.acc + 0x6#4 else s.acc
    c := decide (9 < s.acc.toNat ∨ s.c = true), pc := s.pc + 1#12 } := by
  have hdaa : exec .daa s = .next (advance 1 (decimalAdjust s)) := rfl
  have hcond : (s.c || 0x9#4 < s.acc) = decide (9 < s.acc.toNat ∨ s.c = true) := by
    cases s.c <;> simp [BitVec.lt_def]
  rw [hdaa, decimalAdjust, hcond, advance_one]
  by_cases h : 9 < s.acc.toNat ∨ s.c = true
  · rw [decide_eq_true h, if_pos rfl, if_pos h]
  · have hc : s.c = false := by simpa using fun hc => h (.inr hc)
    rw [decide_eq_false h, if_neg Bool.false_ne_true, if_neg h, ← hc]

/-- Settles O26: the equation of DAA. -/
theorem decimalAdjustResult : Obligations.DecimalAdjustResult := exec_daa

/-- Settles O27: the sum of two digits and C is at most 19, so ADC leaves it as 16 times C plus ACC, and DAA turns it
into 10 times C plus ACC. -/
theorem bcdAdditionIsDecimal : Obligations.BcdAdditionIsDecimal := by
  intro s t u m hm hdigit hacc ht hu
  obtain ⟨-, hadc, -⟩ := arithmeticWithMemoryResult s m hm
  rw [hadc] at ht
  obtain rfl := Host.Outcome.next.inj ht
  rw [exec_daa] at hu
  obtain rfl := Host.Outcome.next.inj hu
  have hle : s.c.toNat ≤ 1 := Bool.toNat_le s.c
  have hcin : (if s.c then 1 else 0) = s.c.toNat := by cases s.c <;> rfl
  have hsum : (s.acc + m + (if s.c then 1#4 else 0#4)).toNat = (s.acc.toNat + m.toNat + s.c.toNat) % 16 := by
    cases s.c <;> simp [BitVec.toNat_add]
  generalize hn : s.acc.toNat + m.toNat + s.c.toNat = n at hsum
  simp only [hcin, hn, hsum, decide_eq_true_eq]
  by_cases hadj : 9 < n % 16 ∨ 16 ≤ n
  · rw [if_pos hadj, decide_eq_true hadj, BitVec.toNat_add, hsum]
    simp
    omega
  · rw [if_neg hadj, decide_eq_false hadj, hsum]
    simp
    omega

end Sys2Proof.Machine
end

section
/-! PROOFS of the forms that read or store one cell (41_logic.md, 42_incdec.md, 43_datamove.md): the store as an update
of one address, and each form as its read, store or both. -/

namespace Sys2Proof.Machine

/-- A cell that can be read exists. -/
theorem ramExists_of_readCell {s : State} {a : RamAddr} {m : Nibble} (h : readCell s a = some m) :
    ramExists a = true := by
  rw [← readCell_isSome s a, h]
  rfl

/-- A store updates its address alone. -/
theorem ramUpdated_setCell {s : State} {a : RamAddr} (v : Nibble) (ha : ramExists a = true) :
    ramUpdated s (setCell s a v).ram a v :=
  fun b => readCell_setCell s a b v ha

/-- A one-byte store form: the cell, and PC past the instruction. -/
theorem storeCell_advance_one {s : State} {a : RamAddr} (v : Nibble) (ha : ramExists a = true) :
    ∃ ram', storeCell s a v (advance 1) = .next { s with ram := ram', pc := s.pc + 1#12 } ∧ ramUpdated s ram' a v :=
  ⟨_, storeCell_of_exists v (advance 1) ha, ramUpdated_setCell v ha⟩

/-- A one-byte form that reads, changes and stores its cell: the cell, and PC past the instruction. -/
theorem modifyCell_advance_one {s : State} {a : RamAddr} {m : Nibble} (f : Nibble → Nibble)
    (hm : readCell s a = some m) :
    ∃ ram', modifyCell s a f (advance 1) = .next { s with ram := ram', pc := s.pc + 1#12 } ∧
      ramUpdated s ram' a (f m) :=
  ⟨_, modifyCell_eq_next.2 ⟨m, hm, rfl⟩, ramUpdated_setCell (f m) (ramExists_of_readCell hm)⟩

/-- Settles O28: each form goes on with the cell's value, or has its operand at hand. -/
theorem logicToAccumulatorResult : Obligations.LogicToAccumulatorResult :=
  ⟨fun _ _ hm => ⟨withCell_of_readCell _ hm, withCell_of_readCell _ hm, withCell_of_readCell _ hm⟩,
    fun _ _ => ⟨rfl, rfl, rfl⟩⟩

/-- Settles O29: each form reads, changes and stores the cell at R1,R0. -/
theorem logicToMemoryResult : Obligations.LogicToMemoryResult := fun s _ hm =>
  ⟨modifyCell_advance_one (fun m => m &&& s.acc) hm, modifyCell_advance_one (fun m => m ||| s.acc) hm,
    modifyCell_advance_one (fun m => m ^^^ s.acc) hm⟩

/-- Settles O32: each form adds 1 or 15 to its cell, and a sum of nibbles is the sum modulo 16. -/
theorem memoryIncDecResult : Obligations.MemoryIncDecResult := by
  have hinc : ∀ m : Nibble, m + 0x1#4 = BitVec.ofNat 4 ((m.toNat + 1) % 16) := fun m => nibble_add_eq_ofNat m 0x1#4
  have hdec : ∀ m : Nibble, m + 0xF#4 = BitVec.ofNat 4 ((m.toNat + 15) % 16) := fun m => nibble_add_eq_ofNat m 0xF#4
  refine ⟨fun s m hm => ?_, fun s m hm => ?_, fun s m hm => ?_, fun s m hm => ?_⟩
  · rw [← hinc]
    exact modifyCell_advance_one (fun m => m + 0x1#4) hm
  · rw [← hdec]
    exact modifyCell_advance_one (fun m => m + 0xF#4) hm
  · rw [← hinc]
    exact modifyCell_advance_one (fun m => m + 0x1#4) hm
  · rw [← hdec]
    exact modifyCell_advance_one (fun m => m + 0xF#4) hm

/-- Settles O33: each meaning is its copy and the move past one byte. -/
theorem registerMoveResult : Obligations.RegisterMoveResult :=
  fun _ => ⟨rfl, rfl, rfl, rfl, rfl, rfl, rfl, rfl, rfl, rfl⟩

/-- Settles O34: a load goes on with the cell's value, a store updates the cell. -/
theorem loadStoreResult : Obligations.LoadStoreResult :=
  ⟨fun _ _ hm => withCell_of_readCell _ hm, fun _ _ hm => withCell_of_readCell _ hm,
    fun s ha => storeCell_advance_one s.acc ha, fun s ha => storeCell_advance_one s.acc ha⟩

/-- The high nibble of a byte joined from two (20_memory.md R58). -/
@[simp] theorem hiNibble_append (x y : Nibble) : hiNibble (x ++ y) = x := highNibble_append x y

/-- The low nibble of a byte joined from two (20_memory.md R58). -/
@[simp] theorem loNibble_append (x y : Nibble) : loNibble (x ++ y) = y := lowNibble_append x y

/-- Settles O36: PAIR_IMM_ORDER says how the two nibbles are joined, and the registers take the joined byte apart. -/
theorem registerImmediateResult : Obligations.RegisterImmediateResult := by
  intro s x y
  have hpair : ∀ (first second : Nibble),
      exec (.movR1R0Imm first second) s = .next (advance 2 { s with
        r1 := hiNibble (pairImm s.cfg first second), r0 := loNibble (pairImm s.cfg first second) }) ∧
      exec (.movR3R2Imm first second) s = .next (advance 2 { s with
        r3 := hiNibble (pairImm s.cfg first second), r2 := loNibble (pairImm s.cfg first second) }) :=
    fun _ _ => ⟨rfl, rfl⟩
  obtain ⟨h10, h32⟩ := hpair x y
  refine ⟨fun hlow => ?_, fun hhigh => ?_, rfl⟩
  · have himm : pairImm s.cfg x y = y ++ x := by rw [pairImm, hlow]
    rw [h10, h32, himm, hiNibble_append, loNibble_append]
    exact ⟨rfl, rfl⟩
  · have himm : pairImm s.cfg x y = x ++ y := by rw [pairImm, hhigh]
    rw [h10, h32, himm, hiNibble_append, loNibble_append]
    exact ⟨rfl, rfl⟩

end Sys2Proof.Machine
end

section
/-! PROOFS of the rotates through C and of the ports (44_rotate_io.md): C as the bit taken in, the level of one pin, and
the bank as a bit of the latch. -/

namespace Sys2Proof.Machine

/-- Settles O38: each rotate moves ACC one place and takes C in. -/
theorem rotateThroughCarryResult : Obligations.RotateThroughCarryResult := by
  intro s
  constructor
  · refine ⟨(rotateLeftWith s s.c).acc, rfl, ?_, ?_, ?_, ?_⟩
    · exact rotateLeftWith_acc_getLsbD_succ s _ (k := 2) (by decide)
    · exact rotateLeftWith_acc_getLsbD_succ s _ (k := 1) (by decide)
    · exact rotateLeftWith_acc_getLsbD_succ s _ (k := 0) (by decide)
    · exact rotateLeftWith_acc_getLsbD_zero s _
  · refine ⟨(rotateRightWith s s.c).acc, rfl, ?_, ?_, ?_, ?_⟩
    · exact rotateRightWith_acc_getLsbD_three s _
    · exact rotateRightWith_acc_getLsbD_of_lt s _ (k := 2) (by decide)
    · exact rotateRightWith_acc_getLsbD_of_lt s _ (k := 1) (by decide)
    · exact rotateRightWith_acc_getLsbD_of_lt s _ (k := 0) (by decide)

/-- Bit k of a port is the level on its pin k (44_rotate_io.md R150, decision D24). -/
theorem portPins_getLsbD (p : InputPort) (pull : Nibble) {k : Nat} (hk : k < 4) :
    (portPins p pull).getLsbD k = pinHigh p pull k := by
  simp only [portPins, pinHigh, BitVec.getLsbD_or, BitVec.getLsbD_and, BitVec.getLsbD_not, hk]
  cases p.driven.getLsbD k <;> simp [Bool.or_comm]

/-- The bank bit is bit 3 of the latch (10_state.md R26). -/
theorem bank_eq_ofBool (s : State) : bank s = BitVec.ofBool (s.pa.getLsbD 3) := by
  have h : ∀ x : Nibble, x.extractLsb' 3 1 = BitVec.ofBool (x.getLsbD 3) := by decide
  exact h s.pa

/-- A ROM read is a read of the image in the bank that bit 3 of the latch selects (20_memory.md R51). -/
theorem romRead_eq (s : State) (p : PcWord) : romRead s p = romByte s.rom (BitVec.ofBool (s.pa.getLsbD 3) ++ p) := by
  rw [romRead, bank_eq_ofBool]

/-- Settles O39: the input forms copy the pins, and the output form the latch, whose bit 3 is the bank of the next
fetch. -/
theorem portResult : Obligations.PortResult := fun s =>
  ⟨⟨readPs s, rfl, fun _ hk => portPins_getLsbD s.ps s.cfg.pullPs hk⟩,
    ⟨readPp s, rfl, fun _ hk => portPins_getLsbD s.pp s.cfg.pullPp hk⟩, _, rfl, rfl, romRead_eq _ _⟩

end Sys2Proof.Machine
end

section
/-! PROOFS of the branch and subroutine families (45_branch.md, 46_subroutine_flag.md): a branch as a choice of PC by
its condition, and the one-level stack register. -/

namespace Sys2Proof.Machine

/-- Settles O40: the address comes back from the two bytes, and the meaning writes it to PC. -/
theorem directJumpResult : Obligations.DirectJumpResult :=
  ⟨fun strict a rest => decode_encode strict (.jmp a) rest, fun _ _ => rfl⟩

/-- A branch goes to its target when its condition holds (45_branch.md R155, decision D9). -/
theorem branchIf_of_iff (s : State) {cond : Bool} (a : BitVec 11) {p : Prop} [Decidable p] (h : cond = true ↔ p) :
    branchIf cond a s =
      { s with pc := if p then (s.pc + 2#12).extractLsb' 11 1 ++ a else s.pc + 2#12 } := by
  have hpc : (if cond then branchTarget s a else npc s 2) =
      if p then (s.pc + 2#12).extractLsb' 11 1 ++ a else s.pc + 2#12 := if_congr h rfl rfl
  rw [branchIf, hpc]

/-- Settles O41: each form branches on its condition, JTMR clearing TF besides. -/
theorem conditionalBranchResult : Obligations.ConditionalBranchResult := by
  intro s a
  have hzero : ∀ x : Nibble, (x == 0x0#4) = true ↔ x.toNat = 0 := by decide
  have hnonzero : ∀ x : Nibble, (x != 0x0#4) = true ↔ x.toNat ≠ 0 := by decide
  refine ⟨rfl, ?_, ?_, ?_, ?_, ?_, ?_, rfl, fun n => rfl⟩
  · exact congrArg _ (branchIf_of_iff s a (by simp))
  · exact congrArg _ (branchIf_of_iff s a (hzero s.acc))
  · exact congrArg _ (branchIf_of_iff s a (hnonzero s.acc))
  · exact congrArg _ (branchIf_of_iff s a (hnonzero s.r0))
  · exact congrArg _ (branchIf_of_iff s a (hnonzero s.r1))
  · exact congrArg _ (branchIf_of_iff s a (hnonzero s.r4))

/-- CALL completes outside an interrupt routine, and then saves the address after it (46_subroutine_flag.md R171). -/
theorem exec_call_eq_next {s t : State} {a : PcWord} : exec (.call a) s = .next t ↔
    s.ctx ≠ .isr ∧ { s with stackPc := npc s 2, pc := a, ctx := .sub } = t := by
  have hcall : exec (.call a) s = if s.ctx = .isr then .fault .callInIsr
    else .next { s with stackPc := npc s 2, pc := a, ctx := .sub } := rfl
  rw [hcall]
  by_cases h : s.ctx = .isr <;> simp [h]

/-- Settles O42: CALL by its context, RET and RETI as they stand. -/
theorem callAndReturnResult : Obligations.CallAndReturnResult := fun _ =>
  ⟨fun _ hctx => exec_call_eq_next.2 ⟨hctx, rfl⟩, fun _ hctx => if_pos hctx, rfl, rfl⟩

/-- Settles O43: the inner CALL overwrites the stack register, which both returns then read. -/
theorem nestedCallLosesOuterReturn : Obligations.NestedCallLosesOuterReturn := by
  intro s a hctx
  have hcall : exec (.call a) s = .next { s with stackPc := s.pc + 2#12, pc := a, ctx := .sub } :=
    exec_call_eq_next.2 ⟨by simp [hctx], rfl⟩
  exact ⟨_, _, _, hcall, rfl, rfl, rfl, rfl, rfl, rfl, rfl⟩

end Sys2Proof.Machine
end

section
/-! PROOFS of the timer, table read and sound families (47_timer.md, 48_tableread.md, 49_sound_halt.md): the nibbles of
a byte as numbers, and the byte a table read fetches. -/

namespace Sys2Proof.Machine

/-- The low nibble as a number. -/
theorem loNibble_eq_ofNat (b : Byte) : loNibble b = BitVec.ofNat 4 (b.toNat % 16) := by
  apply BitVec.eq_of_toNat_eq
  simp [loNibble, BitVec.extractLsb'_toNat]

/-- The high nibble as a number. -/
theorem hiNibble_eq_ofNat (b : Byte) : hiNibble b = BitVec.ofNat 4 (b.toNat / 16) := by
  apply BitVec.eq_of_toNat_eq
  simp [hiNibble, BitVec.extractLsb'_toNat, Nat.shiftRight_eq_div_pow]

/-- The byte of two nibbles as a number. -/
theorem toNat_nibbles (x y : Nibble) : (x ++ y).toNat = 16 * x.toNat + y.toNat := by
  rw [BitVec.toNat_append, ← Nat.shiftLeft_add_eq_or_of_lt y.isLt, Nat.shiftLeft_eq, Nat.mul_comm]

/-- Settles O47: the nibbles of the count are its quotient and remainder by 16. -/
theorem timerInstructionsResult : Obligations.TimerInstructionsResult := by
  intro s
  refine ⟨fun _ => rfl, rfl, rfl, ?_, ?_, ?_, ?_⟩
  · rw [← loNibble_eq_ofNat]
    rfl
  · rw [← hiNibble_eq_ofNat]
    rfl
  · have htmr : hiNibble s.tmr ++ s.acc = BitVec.ofNat 8 (16 * (s.tmr.toNat / 16) + s.acc.toNat) := by
      have := s.tmr.isLt
      apply BitVec.eq_of_toNat_eq
      rw [toNat_nibbles, hiNibble_eq_ofNat]
      simp
      omega
    rw [← htmr]
    rfl
  · have htmr : s.acc ++ loNibble s.tmr = BitVec.ofNat 8 (16 * s.acc.toNat + s.tmr.toNat % 16) := by
      apply BitVec.eq_of_toNat_eq
      rw [toNat_nibbles, loNibble_eq_ofNat]
      simp
      omega
    rw [← htmr]
    rfl

/-- The byte a table read fetches, in the bank that bit 3 of the latch selects (48_tableread.md R195). -/
theorem tableByte_eq (s : State) (page low : Nibble) :
    tableByte s page low = romByte s.rom (BitVec.ofBool (s.pa.getLsbD 3) ++ (page ++ s.acc ++ low)) :=
  romRead_eq s _

/-- READ R4A puts the byte of the current page into R4 and ACC (48_tableread.md R196). -/
theorem exec_readR4A (s : State) : exec .readR4A s = withCell s (pairR1R0 s) (fun low => advance 1 { s with
    r4 := hiNibble (tableByte s (currentPage s) low), acc := loNibble (tableByte s (currentPage s) low) }) := rfl

/-- READF R4A puts the byte of page F into R4 and ACC (48_tableread.md R198). -/
theorem exec_readfR4A (s : State) : exec .readfR4A s = withCell s (pairR1R0 s) (fun low => advance 1 { s with
    r4 := hiNibble (tableByte s pageF low), acc := loNibble (tableByte s pageF low) }) := rfl

/-- READ MR0A stores the high nibble of the byte of the current page (48_tableread.md R197). -/
theorem exec_readMr0A (s : State) : exec .readMr0A s =
    storeCell s (pairR1R0 s) (hiNibble (tableByte s (currentPage s) s.r4))
      (fun t => advance 1 { t with acc := loNibble (tableByte s (currentPage s) s.r4) }) := rfl

/-- READF MR0A stores the high nibble of the byte of page F (48_tableread.md R199). -/
theorem exec_readfMr0A (s : State) : exec .readfMr0A s =
    storeCell s (pairR1R0 s) (hiNibble (tableByte s pageF s.r4))
      (fun t => advance 1 { t with acc := loNibble (tableByte s pageF s.r4) }) := rfl

/-- A table read to R4 from a cell that can be read (48_tableread.md R196, R198). -/
theorem tableReadToR4 {s : State} {low : Nibble} (page : Nibble) {b : Byte} (hb : tableByte s page low = b)
    (hlow : readCell s (pairR1R0 s) = some low) :
    withCell s (pairR1R0 s) (fun low =>
      advance 1 { s with r4 := hiNibble (tableByte s page low), acc := loNibble (tableByte s page low) }) =
    .next { s with
      r4 := BitVec.ofNat 4 (b.toNat / 16), acc := BitVec.ofNat 4 (b.toNat % 16), pc := s.pc + 1#12 } := by
  rw [withCell_of_readCell _ hlow, hb, advance_one, hiNibble_eq_ofNat, loNibble_eq_ofNat]

/-- Settles O50: both forms are the table read to R4, each with its page. -/
theorem tableReadToR4Result : Obligations.TableReadToR4Result := fun s low _ hlow =>
  ⟨fun hb => tableReadToR4 (currentPage s) ((tableByte_eq s _ low).trans hb) hlow,
    fun hb => tableReadToR4 pageF ((tableByte_eq s _ low).trans hb) hlow⟩

/-- A table read to a cell that exists (48_tableread.md R197, R199). -/
theorem tableReadToMemory {s : State} (page : Nibble) {b : Byte} (hb : tableByte s page s.r4 = b)
    (ha : ramExists (pairR1R0 s) = true) :
    ∃ ram', storeCell s (pairR1R0 s) (hiNibble (tableByte s page s.r4))
        (fun t => advance 1 { t with acc := loNibble (tableByte s page s.r4) }) =
      .next { s with ram := ram', acc := BitVec.ofNat 4 (b.toNat % 16), pc := s.pc + 1#12 } ∧
      ramUpdated s ram' (pairR1R0 s) (BitVec.ofNat 4 (b.toNat / 16)) := by
  rw [hb, ← hiNibble_eq_ofNat, ← loNibble_eq_ofNat]
  exact ⟨_, storeCell_of_exists _ _ ha, ramUpdated_setCell _ ha⟩

/-- Settles O51: both forms are the table read to the cell at R1,R0, each with its page. -/
theorem tableReadToMemoryResult : Obligations.TableReadToMemoryResult := fun s _ ha =>
  ⟨fun hb => tableReadToMemory (currentPage s) ((tableByte_eq s _ _).trans hb) ha,
    fun hb => tableReadToMemory pageF ((tableByte_eq s _ _).trans hb) ha⟩

/-- Settles O52: each meaning is its write to the sound control state and the move past its bytes. -/
theorem soundInstructionsResult : Obligations.SoundInstructionsResult :=
  fun _ => ⟨fun _ => rfl, rfl, rfl, rfl, rfl⟩

end Sys2Proof.Machine
end

section
/-! PROOFS of what an instruction can do (10_state.md, 20_memory.md): when it stops, which items it writes and which
it leaves. The case split over the instructions is made once for each of the two, and the statements are read off. -/

namespace Sys2Proof.Machine

/-- A read of a cell goes on where the cell exists and stops with undefinedRam where it does not. -/
theorem withCell_cases (s : State) (a : RamAddr) (k : Nibble → State) :
    (ramExists a = true ∧ ∃ t, withCell s a k = .next t) ∨
    (ramExists a = false ∧ withCell s a k = .fault .undefinedRam) := by
  cases h : ramExists a
  · exact .inr ⟨rfl, withCell_of_not_exists k h⟩
  · obtain ⟨m, hm⟩ := readCell_of_exists (s := s) h
    exact .inl ⟨rfl, k m, withCell_eq_next.2 ⟨m, hm, rfl⟩⟩

/-- A store goes on where the cell exists and stops with undefinedRam where it does not. -/
theorem storeCell_cases (s : State) (a : RamAddr) (v : Nibble) (k : State → State) :
    (ramExists a = true ∧ ∃ t, storeCell s a v k = .next t) ∨
    (ramExists a = false ∧ storeCell s a v k = .fault .undefinedRam) := by
  cases h : ramExists a
  · exact .inr ⟨rfl, storeCell_of_not_exists v k h⟩
  · exact .inl ⟨rfl, _, storeCell_of_exists v k h⟩

/-- A read and store goes on where the cell exists and stops with undefinedRam where it does not. -/
theorem modifyCell_cases (s : State) (a : RamAddr) (f : Nibble → Nibble) (k : State → State) :
    (ramExists a = true ∧ ∃ t, modifyCell s a f k = .next t) ∨
    (ramExists a = false ∧ modifyCell s a f k = .fault .undefinedRam) := by
  cases h : ramExists a
  · exact .inr ⟨rfl, modifyCell_of_not_exists f k h⟩
  · obtain ⟨m, hm⟩ := readCell_of_exists (s := s) h
    exact .inl ⟨rfl, _, modifyCell_eq_next.2 ⟨m, hm, rfl⟩⟩

/-- An instruction that accesses a cell goes on where the cell exists and stops with undefinedRam where it does not
(20_memory.md R55, decision D7). -/
theorem exec_of_cellAddr {i : Instr} {s : State} {a : RamAddr} (h : i.cellAddr s = some a) :
    (ramExists a = true ∧ ∃ t, exec i s = .next t) ∨ (ramExists a = false ∧ exec i s = .fault .undefinedRam) := by
  cases i with
  | addAAtR1R0 | adcAAtR1R0 | subAAtR1R0 | sbcAAtR1R0 | andAAtR1R0 | orAAtR1R0 | xorAAtR1R0 | movAAtR1R0 | movAAtR3R2
  | readR4A | readfR4A =>
    cases h
    exact withCell_cases s _ _
  | movAtR1R0A | movAtR3R2A =>
    cases h
    exact storeCell_cases s _ _ _
  | readMr0A =>
    cases h
    exact exec_readMr0A s ▸ storeCell_cases s _ _ _
  | readfMr0A =>
    cases h
    exact exec_readfMr0A s ▸ storeCell_cases s _ _ _
  | andAtR1R0A | orAtR1R0A | xorAtR1R0A | incAtR1R0 | incAtR3R2 | decAtR1R0 | decAtR3R2 =>
    cases h
    exact modifyCell_cases s _ _ _
  | _ => exact nomatch h

/-- An instruction that accesses no cell has a next state, but for CALL in an interrupt routine and the two undefined
terms (60_exceptions.md R234). -/
theorem exec_of_no_cellAddr {i : Instr} {s : State} (h : i.cellAddr s = none) :
    (i.wellFormed = false ∧ exec i s = .fault .undefinedOpcode) ∨
    (i.wellFormed = true ∧ i.isCall = true ∧ s.ctx = .isr ∧ exec i s = .fault .callInIsr) ∨
    (i.wellFormed = true ∧ (i.isCall = false ∨ s.ctx ≠ .isr) ∧ ∃ t, exec i s = .next t) := by
  cases i with
  | undefined32H | undefined35H => exact .inl ⟨rfl, rfl⟩
  | call a =>
    by_cases hctx : s.ctx = .isr
    · exact .inr (.inl ⟨rfl, rfl, hctx, if_pos hctx⟩)
    · exact .inr (.inr ⟨rfl, .inr hctx, _, if_neg hctx⟩)
  | addAAtR1R0 | adcAAtR1R0 | subAAtR1R0 | sbcAAtR1R0 | andAAtR1R0 | orAAtR1R0 | xorAAtR1R0 | movAAtR1R0 | movAAtR3R2
  | readR4A | readfR4A | movAtR1R0A | movAtR3R2A | readMr0A | readfMr0A | andAtR1R0A | orAtR1R0A | xorAtR1R0A
  | incAtR1R0 | incAtR3R2 | decAtR1R0 | decAtR3R2 => exact nomatch h
  | _ => exact .inr (.inr ⟨rfl, .inl rfl, _, rfl⟩)

/-- An instruction that accesses a cell is one of the summary and is not CALL. -/
theorem wellFormed_of_cellAddr {i : Instr} {s : State} {a : RamAddr} (h : i.cellAddr s = some a) :
    i.wellFormed = true ∧ i.isCall = false := by
  cases i with
  | undefined32H | undefined35H | call => exact nomatch h
  | _ => exact ⟨rfl, rfl⟩

/-- Settles O13: with a cell the instruction completes where the cell exists, without one where it is defined and no
CALL in a routine. -/
theorem completesExactlyWhenSafe : Obligations.CompletesExactlyWhenSafe := by
  intro i s
  cases hcell : i.cellAddr s with
  | some a =>
    obtain ⟨hwf, hcall⟩ := wellFormed_of_cellAddr hcell
    rcases exec_of_cellAddr hcell with ⟨hex, hnext⟩ | ⟨hex, hfault⟩
    · simp [completes, hcell, hwf, hcall, hex, hnext]
    · simp [completes, hcell, hwf, hcall, hex, hfault]
  | none =>
    rcases exec_of_no_cellAddr hcell with ⟨hwf, hfault⟩ | ⟨hwf, hcall, hctx, hfault⟩ | ⟨hwf, hcall | hctx, hnext⟩
    · simp [completes, hwf, hfault]
    · simp [completes, hcall, hctx, hfault]
    · simp [completes, hcell, hwf, hcall, hnext]
    · simp [completes, hcell, hwf, hctx, hnext]

/-- Settles O14: the three stops are those of a missing cell, an undefined term and CALL in a routine. -/
theorem stopsAreTheNamedFaults : Obligations.StopsAreTheNamedFaults := by
  intro i s
  cases hcell : i.cellAddr s with
  | some a =>
    rcases exec_of_cellAddr hcell with ⟨-, t, hnext⟩ | ⟨hex, hfault⟩
    · simp [hnext]
    · simp [hfault, hex]
  | none =>
    rcases exec_of_no_cellAddr hcell with ⟨hwf, hfault⟩ | ⟨-, hcall, hctx, hfault⟩ | ⟨-, -, t, hnext⟩
    · simp [hfault, hwf]
    · simp [hfault, hcall, hctx]
    · simp [hnext]

/-- The undefined area is A0H..AFH (20_memory.md R54, R55). -/
theorem ramExists_eq_false_iff (a : RamAddr) : ramExists a = false ↔ 0xA0 ≤ a.toNat ∧ a.toNat ≤ 0xAF := by
  simp only [ramExists, Bool.or_eq_false_iff, decide_eq_false_iff_not, BitVec.le_def, BitVec.toNat_ofNat]
  omega

/-- Settles O15: such a cell does not exist, so the access stops. -/
theorem undefinedAreaFaults : Obligations.UndefinedAreaFaults := by
  intro i s a hcell hlo hhi
  have hex := (ramExists_eq_false_iff a).2 ⟨hlo, hhi⟩
  rcases exec_of_cellAddr hcell with ⟨hex', -⟩ | ⟨-, hfault⟩
  · exact absurd (hex'.symm.trans hex) (by decide)
  · exact hfault

/-- Settles O16: both terms have this one meaning. -/
theorem undefinedFirstBytesFault : Obligations.UndefinedFirstBytesFault := fun _ => ⟨rfl, rfl⟩

/-- `s` with the items that the instruction writes taken from `t`: the writers of 10_state.md R20 to R36. -/
def withWritesOf (i : Instr) (s t : State) : State :=
  { s with
    acc := if i.writesAcc then t.acc else s.acc
    r0 := if i.writesReg .r0 then t.r0 else s.r0
    r1 := if i.writesReg .r1 then t.r1 else s.r1
    r2 := if i.writesReg .r2 then t.r2 else s.r2
    r3 := if i.writesReg .r3 then t.r3 else s.r3
    r4 := if i.writesReg .r4 then t.r4 else s.r4
    c := if i.writesCarry then t.c else s.c
    pc := if i.transfersControl then t.pc else npc s i.length
    pa := if i = .outPaA then t.pa else s.pa
    stackPc := if i.isCall then t.stackPc else s.stackPc
    tmr := if i.isTimer then t.tmr else s.tmr
    ton := if i.isTimer then t.ton else s.ton
    tf := match i with
      | .jtmr _ => t.tf
      | _ => s.tf
    ie := if i = .ei ∨ i = .di then t.ie else s.ie
    ctx := if i.isCall ∨ i = .ret ∨ i = .reti then t.ctx else s.ctx
    halted := if i = .halt then t.halted else s.halted
    sndCh := if i.isSound then t.sndCh else s.sndCh
    sndOn := if i.isSound then t.sndOn else s.sndOn
    sndMode := if i.isSound then t.sndMode else s.sndMode
    sndNote := if i.isSound then t.sndNote else s.sndNote
    ram := t.ram }

/-- What data RAM can become: untouched, or with a store to the cell the instruction stores to, which exists
(20_memory.md R56). -/
def RamStored (i : Instr) (s t : State) : Prop :=
  (i.storeAddr s = none ∧ t.ram = s.ram) ∨
    ∃ a v, i.storeAddr s = some a ∧ ramExists a = true ∧ t.ram = (setCell s a v).ram

/-- What an instruction that completes has done: the items it writes have changed, and its cell. -/
theorem exec_writes {i : Instr} {s t : State} (h : exec i s = .next t) :
    t = withWritesOf i s t ∧ RamStored i s t := by
  cases i with
  | undefined32H | undefined35H => exact nomatch h
  | addAAtR1R0 | adcAAtR1R0 | subAAtR1R0 | sbcAAtR1R0 | andAAtR1R0 | orAAtR1R0 | xorAAtR1R0 | movAAtR1R0 | movAAtR3R2
  | readR4A | readfR4A =>
    obtain ⟨m, -, rfl⟩ := withCell_eq_next.1 h
    exact ⟨rfl, .inl ⟨rfl, rfl⟩⟩
  | movAtR1R0A | movAtR3R2A =>
    obtain ⟨ha, rfl⟩ := storeCell_eq_next.1 h
    exact ⟨rfl, .inr ⟨_, _, rfl, ha, rfl⟩⟩
  | readMr0A =>
    obtain ⟨ha, rfl⟩ := storeCell_eq_next.1 (exec_readMr0A s ▸ h)
    exact ⟨rfl, .inr ⟨_, _, rfl, ha, rfl⟩⟩
  | readfMr0A =>
    obtain ⟨ha, rfl⟩ := storeCell_eq_next.1 (exec_readfMr0A s ▸ h)
    exact ⟨rfl, .inr ⟨_, _, rfl, ha, rfl⟩⟩
  | andAtR1R0A | orAtR1R0A | xorAtR1R0A | incAtR1R0 | incAtR3R2 | decAtR1R0 | decAtR3R2 =>
    obtain ⟨m, hm, rfl⟩ := modifyCell_eq_next.1 h
    exact ⟨rfl, .inr ⟨_, _, rfl, ramExists_of_readCell hm, rfl⟩⟩
  | call a =>
    obtain ⟨-, rfl⟩ := exec_call_eq_next.1 h
    exact ⟨rfl, .inl ⟨rfl, rfl⟩⟩
  | daa =>
    obtain rfl := Host.Outcome.next.inj ((exec_daa s).symm.trans h)
    exact ⟨rfl, .inl ⟨rfl, rfl⟩⟩
  | _ =>
    obtain rfl := Host.Outcome.next.inj h
    exact ⟨rfl, .inl ⟨rfl, rfl⟩⟩

/-- Settles O17: data RAM is untouched, or has the one store. -/
theorem ramChangesOnlyWhereStored : Obligations.RamChangesOnlyWhereStored := by
  intro i s t h b hb
  obtain ⟨hw, hram⟩ := exec_writes h
  have hres : t.resets = s.resets := by rw [hw]; rfl
  rcases hram with ⟨-, hram⟩ | ⟨a, v, ha, hex, hram⟩
  · exact readCell_congr b hram hres
  · have hne : b ≠ a := fun hba => hb (hba ▸ ha)
    rw [readCell_congr (s := setCell s a v) b hram hres, readCell_setCell s a b v hex, if_neg hne]

/-- Settles O18: ACC, C and each register are taken from the next state only where the instruction writes them. -/
theorem registerAndCarryFrame : Obligations.RegisterAndCarryFrame := by
  intro i s t h
  obtain ⟨hw, -⟩ := exec_writes h
  rw [hw]
  refine ⟨fun hi => ?_, fun r hi => ?_, fun hi => ?_⟩
  · simp [withWritesOf, hi]
  · cases r <;> simp [withWritesOf, getReg, hi]
  · simp [withWritesOf, hi]

/-- Settles O19: each control item is taken from the next state only for its own instructions. -/
theorem controlStateFrame : Obligations.ControlStateFrame := by
  intro i s t h
  obtain ⟨hw, -⟩ := exec_writes h
  rw [hw]
  refine ⟨fun hi => ?_, fun hi => ?_, rfl, fun hi => ?_, fun hi => ?_, fun hei hdi => ?_, rfl,
    fun hcall hret hreti => ?_, fun hi => ?_, fun hi => ?_⟩
  · simp [withWritesOf, hi]
  · simp [withWritesOf, hi]
  · simp [withWritesOf, hi]
  · cases i with
    | jtmr a => exact absurd rfl (hi a)
    | _ => rfl
  · simp [withWritesOf, hei, hdi]
  · simp [withWritesOf, hcall, hret, hreti]
  · simp [withWritesOf, hi]
  · simp [withWritesOf, hi]

/-- Settles O20: these items are in no instruction's writes. -/
theorem noInstructionTouchesTheOutside : Obligations.NoInstructionTouchesTheOutside := by
  intro i s t h
  obtain ⟨hw, -⟩ := exec_writes h
  rw [hw]
  exact ⟨rfl, rfl, rfl, rfl, rfl, rfl, rfl, rfl, rfl, rfl⟩

/-- Settles O21: PC is npc of the length, a sum modulo 4096. -/
theorem straightLineAdvancesPc : Obligations.StraightLineAdvancesPc := by
  intro i s t h hi
  obtain ⟨hw, -⟩ := exec_writes h
  have hpc : t.pc = npc s i.length := by
    rw [hw]
    simp [withWritesOf, hi]
  rw [hpc, npc, BitVec.toNat_add, BitVec.toNat_ofNat]
  omega

end Sys2Proof.Machine
end

section
/-! PROOFS of the core's turn (20_memory.md, 60_exceptions.md R251, 70_reset_and_hazards.md): the instruction at PC as
what fetch decodes, the placed word, and reset. -/

namespace Sys2Proof.Machine

/-- The instruction at PC is the one that fetch decodes (00_scope.md R12). -/
theorem instructionAtPc_iff {s : State} {i : Instr} : instructionAtPc s i ↔ fetch s = some i :=
  decode_pair_eq_ok_iff

/-- The core's turn runs the core's step, whether it stands in the list of turns or the list is empty. -/
theorem step_of_coreTurn {s s' : State} (h : coreTurn s s') : step s = coreStep s' := by
  rcases h with ⟨hturns, rfl⟩ | ⟨ts, hturns, rfl⟩ <;> rw [step, hturns]
  rfl

/-- A step at the head of the list is the turn found there. -/
theorem step_of_turn {s : State} {t : Turn} {ts : List Turn} (h : s.turns = t :: ts) :
    step s = turnStep t { s with turns := ts } := by
  rw [step, h]

/-- The core moves when the chip is neither in HALT mode nor held in reset. -/
theorem coreIdle_eq_false {s : State} (hhalt : s.halted = false) (hres : s.resLow = false) : coreIdle s = false := by
  rw [coreIdle, hhalt, hres]
  rfl

/-- The core runs the instruction at PC when it moves and no interrupt is accepted (60_exceptions.md R251). -/
theorem coreStep_of_instructionAtPc {s : State} {i : Instr} (hhalt : s.halted = false) (hres : s.resLow = false)
    (hirq : irqAccepted s = false) (hi : instructionAtPc s i) : coreStep s = exec i s := by
  simp [coreStep, coreIdle_eq_false hhalt hres, hirq, instructionAtPc_iff.1 hi]

/-- Settles O7: fetch decodes the two bytes as the list of them does. -/
theorem stepRunsDecodedInstruction : Obligations.StepRunsDecodedInstruction := by
  intro s s' hturn hhalt hres hirq
  rw [step_of_coreTurn hturn]
  refine ⟨fun i hi => coreStep_of_instructionAtPc hhalt hres hirq hi, fun herr => ?_⟩
  have hfetch : fetch s' = none := decodePair_eq_none_of_error herr
  simp [coreStep, coreIdle_eq_false hhalt hres, hirq, hfetch]

/-- ROM after the placing: the second byte at PC + 1, the first at PC, and every other byte as before. -/
theorem romByte_placeBytes (s : State) (b : Byte × Byte) (a : RomAddr) : romByte (placeBytes s b) a =
    if a = bank s ++ (s.pc + 1#12) then b.2 else if a = bank s ++ s.pc then b.1 else romByte s.rom a := by
  rw [placeBytes, romByte_romPut, romByte_romPut]

/-- PC and PC + 1 are different addresses of the bank. -/
theorem bank_append_pc_ne (s : State) : bank s ++ s.pc ≠ bank s ++ (s.pc + 1#12) := by
  intro h
  have hpc : s.pc = s.pc + 1#12 := (BitVec.append_right_inj (bank s)).1 h
  bv_omega

/-- The placed word is the instruction at PC. -/
theorem instructionAtPc_withFetchWord {s : State} {nbits w : Nat} {i : Instr} (h : decodeTableWord nbits w = some i) :
    instructionAtPc (s.withFetchWord nbits w) i := by
  have hfst : romRead (s.withFetchWord nbits w) (s.withFetchWord nbits w).pc = (tableBytes nbits w).1 :=
    (romByte_placeBytes s (tableBytes nbits w) (bank s ++ s.pc)).trans (by simp [bank_append_pc_ne s])
  have hsnd : romRead (s.withFetchWord nbits w) ((s.withFetchWord nbits w).pc + 1#12) = (tableBytes nbits w).2 :=
    (romByte_placeBytes s (tableBytes nbits w) (bank s ++ (s.pc + 1#12))).trans (if_pos rfl)
  rw [instructionAtPc_iff, fetch, hfst, hsnd]
  exact decodePair_of_strict _ h

/-- No interrupt is accepted in a state made ready to fetch. -/
theorem irqAccepted_withFetchWord (s : State) (nbits w : Nat) : irqAccepted (s.withFetchWord nbits w) = false := by
  have hirq : irqAccepted (s.withFetchWord nbits w) =
      (!false && (s.ie && !(!false && s.ie && s.ctx == .main && (s.tf || s.extl))) && s.ctx == .main &&
        (s.tf || s.extl)) := rfl
  rw [hirq]
  cases s.ie <;> cases s.ctx == .main <;> cases s.tf <;> cases s.extl <;> rfl

/-- Settles O8: the placed word is at PC, strict or not, and nothing keeps the core from running it. -/
theorem placedWordRuns : Obligations.PlacedWordRuns := by
  intro s nbits w
  refine ⟨fun i hi => ?_, placeBytes s (tableBytes nbits w), (s.withFetchWord nbits w).ie, rfl,
    romByte_placeBytes s (tableBytes nbits w), fun hirq => ?_⟩
  · rw [step_of_coreTurn (.inl ⟨rfl, rfl⟩)]
    exact coreStep_of_instructionAtPc rfl rfl (irqAccepted_withFetchWord s nbits w) (instructionAtPc_withFetchWord hi)
  · have hie : (s.withFetchWord nbits w).ie = (s.ie && !irqAccepted { s with halted := false }) := rfl
    rw [hie, hirq]
    simp

/-- Settles O9: reset writes the table's values itself, and the chip is held in reset after it. -/
theorem resetLeavesTableValues : Obligations.ResetLeavesTableValues := by
  refine ⟨rfl, fun s ts hturns => ?_⟩
  exact ⟨resetNow { s with turns := ts }, step_of_turn hturns, rfl, rfl, rfl, rfl, rfl, rfl, rfl⟩

/-- The reset values, one by one (10_state.md R42). -/
theorem atResetValues_iff (s : State) : atResetValues s = true ↔
    s.pc = 0x000#12 ∧ s.pa = 0b1111#4 ∧ s.ton = false ∧ s.tf = false ∧ s.ie = false ∧ s.extl = false ∧ s.ctx = .main ∧
      s.halted = false ∧ s.sndOn = false ∧ s.sndMode = .one ∧ s.bz = true ∧ s.bzBar = true := by
  simp [atResetValues, and_assoc]

/-- A chip that stands at the reset values, out of reset, runs the instruction at ROM address 1000H
(70_reset_and_hazards.md R263). -/
theorem coreStep_of_atResetValues {s : State} {i : Instr} (h : atResetValues s = true) (hres : s.resLow = false)
    (hi : ∃ rest, decode s.cfg.strictSecondByte [romByte s.rom 0x1000#13, romByte s.rom 0x1001#13] = .ok (i, rest)) :
    coreStep s = exec i s := by
  obtain ⟨hpc, hpa, -, -, hie, -, -, hhalt, -⟩ := (atResetValues_iff s).1 h
  have hrom : ∀ p, romRead s p = romByte s.rom (1#1 ++ p) := fun p => by rw [romRead_eq, hpa]; rfl
  have hirq : irqAccepted s = false := by simp [irqAccepted, hie]
  refine coreStep_of_instructionAtPc hhalt hres hirq ?_
  rw [instructionAtPc, hrom, hrom, hpc]
  exact hi

/-- Settles O10: a chip held in reset stands at the reset values, and RES going high leaves them. -/
theorem executionStartsAtBankOne : Obligations.ExecutionStartsAtBankOne := by
  constructor
  · intro s ts i hinv hres hturns hi
    obtain ⟨-, hvalues, -⟩ := hinv
    refine ⟨_, step_of_turn hturns, rfl, coreStep_of_atResetValues ?_ rfl hi⟩
    exact hvalues hres
  · intro s u t ts i hturns hu ht hi
    rw [step_of_turn hturns] at hu
    obtain rfl := Host.Outcome.next.inj hu
    obtain rfl := Host.Outcome.next.inj ht
    exact ⟨rfl, coreStep_of_atResetValues rfl rfl hi⟩

/-- Settles O11: both memories are empty lists, and the generator is at note 0. -/
theorem invAtReset : Obligations.InvAtReset :=
  ⟨⟨reset_memory_wf, fun _ => rfl, by decide⟩, rfl⟩

end Sys2Proof.Machine
end

section
/-! PROOFS of the invariant (20_memory.md section 2, 10_state.md section 8): the turn of each agent keeps it. -/

namespace Sys2Proof.Machine

/-- What the pads of the sound generator can do (10_state.md R36). -/
theorem soundPads_cases (a b : Bool) (s : State) :
    ((s.halted = true ∨ s.resLow = true) ∧ soundPads a b s = s) ∨
    (s.halted = false ∧ s.resLow = false ∧ soundPads a b s = { s with bz := a, bzBar := b }) := by
  unfold soundPads
  cases s.halted <;> cases s.resLow <;> simp

section Invariant
variable {s t : State}

/-- The timer keeps the invariant: it is off on a chip held in reset. -/
theorem timerTick_keeps_inv (h : MachineInv s) : MachineInv (timerTick s) := by
  obtain ⟨hwf, hvalues, hnote⟩ := h
  have hrun : s.ton = true → s.resLow ≠ true := fun hton hres => by
    obtain ⟨-, -, hoff, -⟩ := (atResetValues_iff s).1 (hvalues hres)
    exact absurd (hton.symm.trans hoff) (by decide)
  rcases timerTick_cases s with ⟨hton, -, -, heq⟩ | ⟨hton, -, -, heq⟩ | ⟨-, heq⟩ <;> rw [heq]
  · exact ⟨hwf, fun hres => absurd hres (hrun hton), hnote⟩
  · exact ⟨hwf, fun hres => absurd hres (hrun hton), hnote⟩
  · exact ⟨hwf, hvalues, hnote⟩

/-- Every sound has a first note. -/
theorem zero_le_lastNote (ch : Nibble) : 0 ≤ lastNote ch := Nat.zero_le _

/-- A note before the last has a next one. -/
theorem add_one_le_lastNote {n last : BitVec 6} (hle : n ≤ last) (hne : n ≠ last) : n + 1 ≤ last := by
  bv_omega

/-- The sound generator keeps the invariant: it is off on a chip held in reset, and stays within the sound's notes. -/
theorem soundNote_keeps_inv (h : MachineInv s) : MachineInv (soundNote s) := by
  obtain ⟨hwf, hvalues, hnote⟩ := h
  have hrun : s.sndOn = true → s.resLow ≠ true := fun hon hres => by
    obtain ⟨-, -, -, -, -, -, -, -, hoff, -⟩ := (atResetValues_iff s).1 (hvalues hres)
    exact absurd (hon.symm.trans hoff) (by decide)
  rcases soundNote_cases s with ⟨hon, -, -, -, heq⟩ | ⟨hon, -, -, -, heq⟩ | ⟨hon, -, hne, heq⟩ | ⟨-, heq⟩ <;> rw [heq]
  · exact ⟨hwf, fun hres => absurd hres (hrun hon), zero_le_lastNote _⟩
  · exact ⟨hwf, fun hres => absurd hres (hrun hon), zero_le_lastNote _⟩
  · exact ⟨hwf, fun hres => absurd hres (hrun hon), add_one_le_lastNote hnote hne⟩
  · exact ⟨hwf, hvalues, hnote⟩

/-- The pads of the sound generator keep the invariant: they are held high in reset. -/
theorem soundPads_keeps_inv (a b : Bool) (h : MachineInv s) : MachineInv (soundPads a b s) := by
  obtain ⟨hwf, hvalues, hnote⟩ := h
  rcases soundPads_cases a b s with ⟨-, heq⟩ | ⟨-, hres, heq⟩ <;> rw [heq]
  · exact ⟨hwf, hvalues, hnote⟩
  · exact ⟨hwf, fun hlow => absurd (hlow.symm.trans hres) (by decide), hnote⟩

/-- The pins keep the invariant: a chip held in reset is not in HALT mode. -/
theorem setPins_keeps_inv (ps pp : InputPort) (h : MachineInv s) : MachineInv (setPins ps pp s) := by
  obtain ⟨hwf, hvalues, hnote⟩ := h
  have hrun : s.resLow = true → s.halted = false := fun hres => by
    obtain ⟨-, -, -, -, -, -, -, hhalt, -⟩ := (atResetValues_iff s).1 (hvalues hres)
    exact hhalt
  rcases setPins_cases ps pp s with ⟨hhalt, -, heq⟩ | ⟨-, heq⟩ <;> rw [heq]
  · exact ⟨hwf, fun hres => absurd (hhalt.symm.trans (hrun hres)) (by decide), hnote⟩
  · exact ⟨hwf, hvalues, hnote⟩

/-- Reset establishes the invariant, the ROM image staying as it is. -/
theorem resetNow_keeps_inv (h : MachineInv s) : MachineInv (resetNow s) := by
  obtain ⟨hwf, -, -⟩ := h
  obtain ⟨-, hrom⟩ := Bool.and_eq_true_iff.1 hwf
  exact ⟨hrom, fun _ => rfl, zero_le_lastNote _⟩

/-- The release of RES keeps the invariant. -/
theorem releaseReset_keeps_inv (h : MachineInv s) : MachineInv (releaseReset s) := by
  obtain ⟨hwf, -, hnote⟩ := h
  exact ⟨hwf, fun hres => absurd hres Bool.false_ne_true, hnote⟩

/-- An instruction leaves the sound and its note, or starts a sound at its first note (49_sound_halt.md R206, R207). -/
theorem exec_sndNote {i : Instr} (h : exec i s = .next t) :
    (t.sndCh = s.sndCh ∧ t.sndNote = s.sndNote) ∨ t.sndNote = 0 := by
  cases i with
  | soundN n | soundA =>
    obtain rfl := Host.Outcome.next.inj h
    exact .inr rfl
  | soundOne | soundLoop | soundOff =>
    obtain rfl := Host.Outcome.next.inj h
    exact .inl ⟨rfl, rfl⟩
  | _ =>
    obtain ⟨hw, -⟩ := exec_writes h
    rw [hw]
    exact .inl ⟨rfl, rfl⟩

/-- An instruction keeps data RAM in canonical form: a store is to a cell that exists. -/
theorem exec_keeps_ramWf {i : Instr} (h : exec i s = .next t) (hwf : ramWf s.ram = true) : ramWf t.ram = true := by
  obtain ⟨-, ⟨-, hram⟩ | ⟨a, v, -, hex, hram⟩⟩ := exec_writes h <;> rw [hram]
  · exact hwf
  · exact ramWf_setCell v hex hwf

/-- An instruction of a chip out of reset keeps the invariant. -/
theorem exec_keeps_inv {i : Instr} (hres : s.resLow = false) (h : exec i s = .next t) (hinv : MachineInv s) :
    MachineInv t := by
  obtain ⟨hwf, -, hnote⟩ := hinv
  obtain ⟨hramWf, hromWf⟩ := Bool.and_eq_true_iff.1 hwf
  obtain ⟨hrom, -, -, -, hresLow, -⟩ := noInstructionTouchesTheOutside i s t h
  refine ⟨Bool.and_eq_true_iff.2 ⟨exec_keeps_ramWf h hramWf, hrom ▸ hromWf⟩, fun hlow => ?_, ?_⟩
  · exact absurd (hlow.symm.trans (hresLow.trans hres)) (by decide)
  · rcases exec_sndNote h with ⟨hch, hn⟩ | hn
    · rw [hch, hn]
      exact hnote
    · rw [hn]
      exact zero_le_lastNote _

/-- The core's turn keeps the invariant. -/
theorem coreStep_keeps_inv (hinv : MachineInv s) (h : coreStep s = .next t) : MachineInv t := by
  have hres : coreIdle s = false → s.resLow = false := fun hidle => (Bool.or_eq_false_iff.1 hidle).2
  rcases coreStep_cases s with ⟨-, heq⟩ | ⟨hidle, -, heq⟩ | ⟨i, hidle, -, -, heq⟩ | ⟨-, -, -, heq⟩ <;> rw [heq] at h
  · cases h
    exact hinv
  · cases h
    obtain ⟨hwf, -, hnote⟩ := hinv
    exact ⟨hwf, fun hlow => absurd (hlow.symm.trans (hres hidle)) (by decide), hnote⟩
  · exact exec_keeps_inv (hres hidle) h hinv
  · exact nomatch h

/-- The turn of every agent keeps the invariant. -/
theorem turnStep_keeps_inv {turn : Turn} (hinv : MachineInv s) (h : turnStep turn s = .next t) : MachineInv t := by
  cases turn with
  | core => exact coreStep_keeps_inv hinv h
  | timerTick =>
    cases h
    exact timerTick_keeps_inv hinv
  | soundNote =>
    cases h
    exact soundNote_keeps_inv hinv
  | soundPads a b =>
    cases h
    exact soundPads_keeps_inv a b hinv
  | pins ps pp =>
    cases h
    exact setPins_keeps_inv ps pp hinv
  | resLow =>
    cases h
    exact resetNow_keeps_inv hinv
  | resHigh =>
    cases h
    exact releaseReset_keeps_inv hinv

/-- Settles O12: the turn that the step takes keeps the invariant, and taking it off the list changes nothing of it. -/
theorem stepKeepsInv : Obligations.StepKeepsInv := by
  intro s t hinv h
  cases hturns : s.turns with
  | nil =>
    rw [step_of_coreTurn (.inl ⟨hturns, rfl⟩)] at h
    exact coreStep_keeps_inv hinv h
  | cons turn ts =>
    rw [step_of_turn hturns] at h
    exact turnStep_keeps_inv (s := { s with turns := ts }) hinv h

end Invariant

end Sys2Proof.Machine
end

section
/-! PROOFS of non-interference: no step reads the ROM of the other bank (20_memory.md R51) or the sound circuit
(49_sound_halt.md R205). Both go by the same cases on the instruction and on the agent: the change of the state goes
through each of them. -/

namespace Sys2Proof.Machine

/-- A function of the outcome goes through a read of a cell. -/
theorem mapNext_withCell (f : State → State) (s : State) (a : RamAddr) (k : Nibble → State) :
    mapNext f (withCell s a k) = withCell s a (fun m => f (k m)) := by
  unfold withCell
  cases readCell s a <;> rfl

/-- A function of the outcome goes through a store. -/
theorem mapNext_storeCell (f : State → State) (s : State) (a : RamAddr) (v : Nibble) (k : State → State) :
    mapNext f (storeCell s a v k) = storeCell s a v (fun t => f (k t)) := by
  unfold storeCell
  split <;> rfl

/-- A function of the outcome goes through a read and store. -/
theorem mapNext_modifyCell (f : State → State) (s : State) (a : RamAddr) (g : Nibble → Nibble) (k : State → State) :
    mapNext f (modifyCell s a g k) = modifyCell s a g (fun t => f (k t)) := by
  unfold modifyCell
  cases readCell s a <;> rfl

/-- A function of the outcome goes through CALL. -/
theorem mapNext_call (f : State → State) (s : State) (a : PcWord) : mapNext f (exec (.call a) s) =
    if s.ctx = .isr then .fault .callInIsr
    else .next (f { s with stackPc := npc s 2, pc := a, ctx := .sub }) := by
  have hcall : exec (.call a) s = if s.ctx = .isr then .fault .callInIsr
    else .next { s with stackPc := npc s 2, pc := a, ctx := .sub } := rfl
  rw [hcall]
  split <;> rfl

section OtherBank
variable {s : State} {rom' : List Host.Cell}

/-- The state with another ROM image. -/
def withRom (rom' : List Host.Cell) (s : State) : State := { s with rom := rom' }

/-- The other image has the same bytes in the bank that PA3 selects. -/
def SameBank (rom' : List Host.Cell) (s : State) : Prop := ∀ p : PcWord, romRead (withRom rom' s) p = romRead s p

/-- An instruction reads ROM in the selected bank only (48_tableread.md R195). -/
theorem exec_withRom (h : SameBank rom' s) (i : Instr) :
    exec i (withRom rom' s) = mapNext (withRom rom') (exec i s) := by
  have htable : ∀ page low, tableByte (withRom rom' s) page low = tableByte s page low :=
    fun page low => h (page ++ s.acc ++ low)
  cases i with
  | readR4A =>
    rw [exec_readR4A, exec_readR4A, mapNext_withCell]
    simp only [htable]
    rfl
  | readfR4A =>
    rw [exec_readfR4A, exec_readfR4A, mapNext_withCell]
    simp only [htable]
    rfl
  | readMr0A =>
    rw [exec_readMr0A, exec_readMr0A, mapNext_storeCell, htable]
    rfl
  | readfMr0A =>
    rw [exec_readfMr0A, exec_readfMr0A, mapNext_storeCell, htable]
    rfl
  | addAAtR1R0 | adcAAtR1R0 | subAAtR1R0 | sbcAAtR1R0 | andAAtR1R0 | orAAtR1R0 | xorAAtR1R0 | movAAtR1R0
  | movAAtR3R2 => exact .symm ((mapNext_withCell _ _ _ _).trans rfl)
  | movAtR1R0A | movAtR3R2A => exact .symm ((mapNext_storeCell _ _ _ _ _).trans rfl)
  | andAtR1R0A | orAtR1R0A | xorAtR1R0A | incAtR1R0 | incAtR3R2 | decAtR1R0 | decAtR3R2 =>
    exact .symm ((mapNext_modifyCell _ _ _ _ _).trans rfl)
  | call a => exact .symm ((mapNext_call _ _ _).trans rfl)
  | daa =>
    rw [exec_daa, exec_daa]
    rfl
  | _ => rfl

/-- The core fetches from the selected bank only (20_memory.md R51). -/
theorem coreStep_withRom (h : SameBank rom' s) : coreStep (withRom rom' s) = mapNext (withRom rom') (coreStep s) := by
  have hidle : coreIdle (withRom rom' s) = coreIdle s := rfl
  have hirq : irqAccepted (withRom rom' s) = irqAccepted s := rfl
  have hfetch : fetch (withRom rom' s) = fetch s := by
    rw [fetch, h, h]
    rfl
  unfold coreStep
  rw [hidle, hirq, hfetch]
  cases coreIdle s
  · cases irqAccepted s
    · cases fetch s
      · rfl
      · exact exec_withRom h _
    · rfl
  · rfl

/-- The timer reads no ROM. -/
theorem timerTick_withRom (rom' : List Host.Cell) (s : State) :
    timerTick (withRom rom' s) = withRom rom' (timerTick s) := by
  simp only [timerTick, apply_ite (withRom rom')]
  rfl

/-- The sound generator reads no ROM. -/
theorem soundNote_withRom (rom' : List Host.Cell) (s : State) :
    soundNote (withRom rom' s) = withRom rom' (soundNote s) := by
  have hmode : (withRom rom' s).sndMode = s.sndMode := rfl
  simp only [soundNote, apply_ite (withRom rom'), hmode]
  cases s.sndMode <;> rfl

/-- The pads of the sound generator read no ROM. -/
theorem soundPads_withRom (rom' : List Host.Cell) (a b : Bool) (s : State) :
    soundPads a b (withRom rom' s) = withRom rom' (soundPads a b s) := by
  simp only [soundPads, apply_ite (withRom rom')]
  rfl

/-- The pins read no ROM. -/
theorem setPins_withRom (rom' : List Host.Cell) (ps pp : InputPort) (s : State) :
    setPins ps pp (withRom rom' s) = withRom rom' (setPins ps pp s) := by
  simp only [setPins, apply_ite (withRom rom')]
  rfl

/-- No agent reads the other bank. -/
theorem turnStep_withRom (h : SameBank rom' s) (turn : Turn) :
    turnStep turn (withRom rom' s) = mapNext (withRom rom') (turnStep turn s) := by
  cases turn with
  | core => exact coreStep_withRom h
  | timerTick => exact congrArg Host.Outcome.next (timerTick_withRom rom' s)
  | soundNote => exact congrArg Host.Outcome.next (soundNote_withRom rom' s)
  | soundPads a b => exact congrArg Host.Outcome.next (soundPads_withRom rom' a b s)
  | pins ps pp => exact congrArg Host.Outcome.next (setPins_withRom rom' ps pp s)
  | resLow => rfl
  | resHigh => rfl

/-- Settles O22: whichever agent moves, the other image goes through its turn. -/
theorem otherBankIsUnreachable : Obligations.OtherBankIsUnreachable := by
  intro s rom' h
  have hbank : SameBank rom' s := h
  change step (withRom rom' s) = mapNext (withRom rom') (step s)
  cases hturns : s.turns with
  | nil =>
    rw [step_of_coreTurn (.inl ⟨hturns, rfl⟩), step_of_coreTurn (s := withRom rom' s) (.inl ⟨hturns, rfl⟩)]
    exact coreStep_withRom hbank
  | cons turn ts =>
    rw [step_of_turn hturns, step_of_turn (s := withRom rom' s) hturns]
    exact turnStep_withRom (s := { s with turns := ts }) hbank turn

end OtherBank

section Sound
variable (s : State)

/-- No instruction reads the sound circuit (49_sound_halt.md R205). -/
theorem exec_withoutSound (i : Instr) :
    mapNext withoutSound (exec i (withoutSound s)) = mapNext withoutSound (exec i s) := by
  cases i with
  | readR4A =>
    rw [exec_readR4A, exec_readR4A, mapNext_withCell, mapNext_withCell]
    rfl
  | readfR4A =>
    rw [exec_readfR4A, exec_readfR4A, mapNext_withCell, mapNext_withCell]
    rfl
  | readMr0A =>
    rw [exec_readMr0A, exec_readMr0A, mapNext_storeCell, mapNext_storeCell]
    rfl
  | readfMr0A =>
    rw [exec_readfMr0A, exec_readfMr0A, mapNext_storeCell, mapNext_storeCell]
    rfl
  | addAAtR1R0 | adcAAtR1R0 | subAAtR1R0 | sbcAAtR1R0 | andAAtR1R0 | orAAtR1R0 | xorAAtR1R0 | movAAtR1R0
  | movAAtR3R2 => exact (mapNext_withCell _ _ _ _).trans (.symm ((mapNext_withCell _ _ _ _).trans rfl))
  | movAtR1R0A | movAtR3R2A =>
    exact (mapNext_storeCell _ _ _ _ _).trans (.symm ((mapNext_storeCell _ _ _ _ _).trans rfl))
  | andAtR1R0A | orAtR1R0A | xorAtR1R0A | incAtR1R0 | incAtR3R2 | decAtR1R0 | decAtR3R2 =>
    exact (mapNext_modifyCell _ _ _ _ _).trans (.symm ((mapNext_modifyCell _ _ _ _ _).trans rfl))
  | call a => exact (mapNext_call _ _ _).trans (.symm ((mapNext_call _ _ _).trans rfl))
  | daa =>
    rw [exec_daa, exec_daa]
    rfl
  | _ => rfl

/-- The core reads nothing of the sound circuit. -/
theorem coreStep_withoutSound :
    mapNext withoutSound (coreStep (withoutSound s)) = mapNext withoutSound (coreStep s) := by
  have hidle : coreIdle (withoutSound s) = coreIdle s := rfl
  have hirq : irqAccepted (withoutSound s) = irqAccepted s := rfl
  have hfetch : fetch (withoutSound s) = fetch s := rfl
  unfold coreStep
  rw [hidle, hirq, hfetch]
  cases coreIdle s
  · cases irqAccepted s
    · cases fetch s
      · rfl
      · exact exec_withoutSound s _
    · rfl
  · rfl

/-- The timer reads nothing of the sound circuit. -/
theorem timerTick_withoutSound : timerTick (withoutSound s) = withoutSound (timerTick s) := by
  simp only [timerTick, apply_ite withoutSound]
  rfl

/-- The sound generator writes nothing but the sound circuit. -/
theorem withoutSound_soundNote : withoutSound (soundNote s) = withoutSound s := by
  rcases soundNote_cases s with ⟨-, -, -, -, heq⟩ | ⟨-, -, -, -, heq⟩ | ⟨-, -, -, heq⟩ | ⟨-, heq⟩ <;> rw [heq] <;> rfl

/-- The pads of the sound generator are part of the sound circuit. -/
theorem withoutSound_soundPads (a b : Bool) : withoutSound (soundPads a b s) = withoutSound s := by
  rcases soundPads_cases a b s with ⟨-, heq⟩ | ⟨-, -, heq⟩ <;> rw [heq]
  rfl

/-- The pins read nothing of the sound circuit. -/
theorem setPins_withoutSound (ps pp : InputPort) :
    setPins ps pp (withoutSound s) = withoutSound (setPins ps pp s) := by
  simp only [setPins, apply_ite withoutSound]
  rfl

/-- No agent reads the sound circuit but the sound generator, which writes nothing else. -/
theorem turnStep_withoutSound (turn : Turn) :
    mapNext withoutSound (turnStep turn (withoutSound s)) = mapNext withoutSound (turnStep turn s) := by
  cases turn with
  | core => exact coreStep_withoutSound s
  | timerTick =>
    rw [turnStep, mapNext, timerTick_withoutSound]
    rfl
  | soundNote =>
    exact congrArg Host.Outcome.next ((withoutSound_soundNote (withoutSound s)).trans (withoutSound_soundNote s).symm)
  | soundPads a b =>
    exact congrArg Host.Outcome.next
      ((withoutSound_soundPads (withoutSound s) a b).trans (withoutSound_soundPads s a b).symm)
  | pins ps pp =>
    rw [turnStep, mapNext, setPins_withoutSound]
    rfl
  | resLow => rfl
  | resHigh => rfl

/-- Settles O23: whichever agent moves, its turn ends in the same state but for the sound circuit. -/
theorem soundIsUnobservable : Obligations.SoundIsUnobservable := by
  intro s
  cases hturns : s.turns with
  | nil =>
    rw [step_of_coreTurn (.inl ⟨hturns, rfl⟩), step_of_coreTurn (s := withoutSound s) (.inl ⟨hturns, rfl⟩)]
    exact coreStep_withoutSound s
  | cons turn ts =>
    rw [step_of_turn hturns, step_of_turn (s := withoutSound s) hturns]
    exact turnStep_withoutSound { s with turns := ts } turn

end Sound

end Sys2Proof.Machine
end

section
/-! PROOFS of interrupts (60_exceptions.md R220 to R234): when one is accepted, the two entries it can be, and what
every turn leaves of the context and the stack register. -/

namespace Sys2Proof.Machine

/-- The acceptance condition, part by part (60_exceptions.md R226). -/
theorem irqAccepted_iff (s : State) : irqAccepted s = true ↔
    s.halted = false ∧ s.ie = true ∧ s.ctx = .main ∧ (s.tf = true ∨ s.extl = true) := by
  simp [irqAccepted, and_assoc]

/-- The entry of the timer interrupt (60_exceptions.md R221, R229). -/
theorem takeInterrupt_timer (s : State) : takeInterrupt .timer s =
    { s with stackPc := s.pc, stackC := s.c, pc := 0x004#12, tf := false, ctx := .isr } := rfl

/-- The entry of the external interrupt (60_exceptions.md R221, R229). -/
theorem takeInterrupt_external (s : State) : takeInterrupt .external s =
    { s with stackPc := s.pc, stackC := s.c, pc := 0x008#12, extl := false, ctx := .isr } := rfl

/-- The source that is taken is pending (60_exceptions.md R228). -/
theorem chosenIrq_pending {s : State} (h : s.tf = true ∨ s.extl = true) :
    (chosenIrq s = .timer ∧ s.tf = true) ∨ (chosenIrq s = .external ∧ s.extl = true) := by
  cases hsrc : chosenIrq s
  · refine .inl ⟨rfl, ?_⟩
    by_contra htf
    simp [chosenIrq, htf] at hsrc
  · refine .inr ⟨rfl, ?_⟩
    by_contra hextl
    have htf := h.resolve_right hextl
    simp [chosenIrq, hextl, htf] at hsrc

/-- An accepted interrupt is the entry of one pending source; of the rest only the count of draws can move
(60_exceptions.md R228, R229). -/
theorem acceptInterrupt_cases {s : State} (h : s.tf = true ∨ s.extl = true) :
    (s.tf = true ∧ ∃ d, acceptInterrupt s =
      { s with stackPc := s.pc, stackC := s.c, pc := 0x004#12, tf := false, ctx := .isr, draws := d }) ∨
    (s.extl = true ∧ ∃ d, acceptInterrupt s =
      { s with stackPc := s.pc, stackC := s.c, pc := 0x008#12, extl := false, ctx := .isr, draws := d }) := by
  rcases chosenIrq_pending h with ⟨hsrc, hpending⟩ | ⟨hsrc, hpending⟩
  · refine .inl ⟨hpending, if irqTie s then s.draws + 1 else s.draws, ?_⟩
    rw [acceptInterrupt, hsrc, takeInterrupt_timer]
  · refine .inr ⟨hpending, if irqTie s then s.draws + 1 else s.draws, ?_⟩
    rw [acceptInterrupt, hsrc, takeInterrupt_external]

/-- The core takes an accepted interrupt (60_exceptions.md R227). -/
theorem coreStep_of_irqAccepted {s : State} (hres : s.resLow = false) (h : irqAccepted s = true) :
    coreStep s = .next (acceptInterrupt s) := by
  obtain ⟨hhalt, -⟩ := (irqAccepted_iff s).1 h
  simp [coreStep, coreIdle_eq_false hhalt hres, h]

/-- With the timer alone pending the entry is the timer's, and nothing is drawn. -/
theorem acceptInterrupt_timer {s : State} (htf : s.tf = true) (hextl : s.extl = false) : acceptInterrupt s =
    { s with stackPc := s.pc, stackC := s.c, pc := 0x004#12, tf := false, ctx := .isr } := by
  have hsrc : chosenIrq s = .timer := by simp [chosenIrq, htf, hextl]
  have htie : irqTie s = false := by simp [irqTie, hextl]
  rw [acceptInterrupt, hsrc, htie, takeInterrupt_timer]
  rfl

/-- With the timer not pending the entry is the external one, and nothing is drawn. -/
theorem acceptInterrupt_external {s : State} (htf : s.tf = false) : acceptInterrupt s =
    { s with stackPc := s.pc, stackC := s.c, pc := 0x008#12, extl := false, ctx := .isr } := by
  have hsrc : chosenIrq s = .external := by simp [chosenIrq, htf]
  have htie : irqTie s = false := by simp [irqTie, htf]
  rw [acceptInterrupt, hsrc, htie, takeInterrupt_external]
  rfl

/-- Settles O54: the interrupt is accepted, and its one pending source is taken. -/
theorem interruptEntryResult : Obligations.InterruptEntryResult := by
  intro s s' hturn hhalt hres hie hctx
  rw [step_of_coreTurn hturn]
  refine ⟨fun htf hextl => ?_, fun htf hextl => ?_⟩
  · rw [coreStep_of_irqAccepted hres ((irqAccepted_iff s').2 ⟨hhalt, hie, hctx, .inl htf⟩),
      acceptInterrupt_timer htf hextl]
  · rw [coreStep_of_irqAccepted hres ((irqAccepted_iff s').2 ⟨hhalt, hie, hctx, .inr hextl⟩),
      acceptInterrupt_external htf]

/-- Settles O55: one of the two entries, by IRQ_PRIORITY where it decides. -/
theorem simultaneousInterruptsResult : Obligations.SimultaneousInterruptsResult := by
  intro s s' hturn hhalt hres hie hctx htf hextl
  rw [step_of_coreTurn hturn, coreStep_of_irqAccepted hres ((irqAccepted_iff s').2 ⟨hhalt, hie, hctx, .inl htf⟩)]
  refine ⟨_, rfl, rfl, rfl, rfl, ?_, fun hprio => ?_, fun hprio => ?_⟩
  · rcases acceptInterrupt_cases (.inl htf) with ⟨-, d, heq⟩ | ⟨-, d, heq⟩ <;> rw [heq]
    · exact .inl ⟨rfl, rfl, hextl⟩
    · exact .inr ⟨rfl, htf, rfl⟩
  · have hsrc : chosenIrq s' = .timer := by simp [chosenIrq, htf, hextl, hprio]
    rw [acceptInterrupt, hsrc]
    rfl
  · have hsrc : chosenIrq s' = .external := by simp [chosenIrq, htf, hextl, hprio]
    rw [acceptInterrupt, hsrc]
    rfl

/-- Settles O46: EI makes the acceptance condition true, so the core's turn after it is an entry. -/
theorem interruptEnableResult : Obligations.InterruptEnableResult := by
  intro s
  refine ⟨rfl, rfl, fun t hhalt hres hctx hpending ht => ?_⟩
  obtain rfl := Host.Outcome.next.inj ht
  refine ⟨_, coreStep_of_irqAccepted hres ((irqAccepted_iff _).2 ⟨hhalt, rfl, hctx, hpending⟩), rfl, rfl, rfl, ?_⟩
  rcases acceptInterrupt_cases (s := advance 1 { s with ie := true }) hpending with ⟨htf, d, heq⟩ | ⟨hextl, d, heq⟩
  · rw [heq]
    exact .inl ⟨rfl, htf, rfl, rfl⟩
  · rw [heq]
    exact .inr ⟨rfl, hextl, rfl, rfl⟩

/-- Settles O57: the entry saves PC and C on the stack register and RETI takes them back from it. -/
theorem interruptIsPrecise : Obligations.InterruptIsPrecise := by
  intro s h
  obtain ⟨-, -, hctx, hpending⟩ := (irqAccepted_iff s).1 h
  have hreti : ∀ t, exec .reti t = .next { t with pc := t.stackPc, ctx := .main, c := t.stackC } := fun _ => rfl
  refine ⟨_, hreti _, ?_⟩
  rcases acceptInterrupt_cases hpending with ⟨htf, d, heq⟩ | ⟨hextl, d, heq⟩ <;> rw [heq, ← hctx]
  · exact ⟨rfl, .inl ⟨rfl, htf, rfl⟩⟩
  · exact ⟨rfl, .inr ⟨rfl, hextl, rfl⟩⟩

/-- No instruction starts a routine, and within one none writes the stack register (46_subroutine_flag.md R171 to
R173). -/
theorem exec_keeps_routine {i : Instr} {s t : State} (h : exec i s = .next t) (hctx : t.ctx = .isr) :
    s.ctx = .isr ∧ t.stackPc = s.stackPc ∧ t.stackC = s.stackC := by
  cases i with
  | call a =>
    obtain ⟨-, rfl⟩ := exec_call_eq_next.1 h
    exact nomatch hctx
  | ret | reti =>
    obtain rfl := Host.Outcome.next.inj h
    exact nomatch hctx
  | _ =>
    obtain ⟨hw, -⟩ := exec_writes h
    rw [hw] at hctx ⊢
    exact ⟨hctx, rfl, rfl⟩

/-- No agent but the core starts a routine or writes the stack register of one. -/
theorem turnStep_keeps_routine {turn : Turn} {s t : State} (hturn : turn ≠ .core) (h : turnStep turn s = .next t)
    (hctx : t.ctx = .isr) : s.ctx = .isr ∧ t.stackPc = s.stackPc ∧ t.stackC = s.stackC := by
  cases turn with
  | core => exact absurd rfl hturn
  | timerTick =>
    cases h
    rcases timerTick_cases s with ⟨-, -, -, heq⟩ | ⟨-, -, -, heq⟩ | ⟨-, heq⟩ <;> rw [heq] at hctx ⊢
    all_goals exact ⟨hctx, rfl, rfl⟩
  | soundNote =>
    cases h
    rcases soundNote_cases s with ⟨-, -, -, -, heq⟩ | ⟨-, -, -, -, heq⟩ | ⟨-, -, -, heq⟩ | ⟨-, heq⟩ <;>
      rw [heq] at hctx ⊢
    all_goals exact ⟨hctx, rfl, rfl⟩
  | soundPads a b =>
    cases h
    rcases soundPads_cases a b s with ⟨-, heq⟩ | ⟨-, -, heq⟩ <;> rw [heq] at hctx ⊢
    all_goals exact ⟨hctx, rfl, rfl⟩
  | pins ps pp =>
    cases h
    rcases setPins_cases ps pp s with ⟨-, -, heq⟩ | ⟨-, heq⟩ <;> rw [heq] at hctx ⊢
    all_goals exact ⟨hctx, rfl, rfl⟩
  | resLow =>
    cases h
    exact nomatch hctx
  | resHigh =>
    cases h
    exact ⟨hctx, rfl, rfl⟩

/-- The core starts a routine only by an accepted interrupt, and within one it does not write the stack register. -/
theorem coreStep_routine {s t : State} (h : coreStep s = .next t) (hctx : t.ctx = .isr) :
    (s.ctx ≠ .isr ∧ irqAccepted s = true) ∨ (s.ctx = .isr ∧ t.stackPc = s.stackPc ∧ t.stackC = s.stackC) := by
  rcases coreStep_cases s with ⟨-, heq⟩ | ⟨-, hirq, heq⟩ | ⟨i, -, -, -, heq⟩ | ⟨-, -, -, heq⟩ <;> rw [heq] at h
  · cases h
    exact .inr ⟨hctx, rfl, rfl⟩
  · obtain ⟨-, -, hmain, -⟩ := (irqAccepted_iff s).1 hirq
    exact .inl ⟨by simp [hmain], hirq⟩
  · exact .inr (exec_keeps_routine h hctx)
  · exact nomatch h

/-- A step ends in a routine by the core's accepted interrupt, or from a routine whose stack register it keeps. -/
theorem step_routine {s t : State} (h : step s = .next t) (hctx : t.ctx = .isr) :
    (s.ctx ≠ .isr ∧ irqAccepted s = true ∧ (s.turns = [] ∨ ∃ ts, s.turns = .core :: ts)) ∨
    (s.ctx = .isr ∧ t.stackPc = s.stackPc ∧ t.stackC = s.stackC) := by
  cases hturns : s.turns with
  | nil =>
    rw [step_of_coreTurn (.inl ⟨hturns, rfl⟩)] at h
    rcases coreStep_routine h hctx with ⟨hne, hirq⟩ | hkeep
    · exact .inl ⟨hne, hirq, .inl rfl⟩
    · exact .inr hkeep
  | cons turn ts =>
    rw [step_of_turn hturns] at h
    by_cases hcore : turn = .core
    · subst hcore
      rcases coreStep_routine (s := { s with turns := ts }) h hctx with ⟨hne, hirq⟩ | hkeep
      · exact .inl ⟨hne, hirq, .inr ⟨ts, rfl⟩⟩
      · exact .inr hkeep
    · exact .inr (turnStep_keeps_routine (s := { s with turns := ts }) hcore h hctx)

/-- Settles O56: a routine starts by an accepted interrupt only, and with none accepted the core runs the instruction at
PC. -/
theorem onlyAcceptedEntryStartsRoutine : Obligations.OnlyAcceptedEntryStartsRoutine := by
  refine ⟨fun s t h hctx hne => ?_, fun s s' i hturn hhalt hres hno hi => ?_, fun s t h hs hctx => ?_⟩
  · rcases step_routine h hctx with ⟨-, hirq, hturns⟩ | ⟨hs, -⟩
    · obtain ⟨hhalt, hie, hmain, hpending⟩ := (irqAccepted_iff s).1 hirq
      exact ⟨hmain, hie, hhalt, hpending, hturns⟩
    · exact absurd hs hne
  · have hirq : irqAccepted s' = false := by
      rcases hno with hie | hctx | ⟨htf, hextl⟩
      · simp [irqAccepted, hie]
      · simp [irqAccepted, hctx]
      · simp [irqAccepted, htf, hextl]
    rw [step_of_coreTurn hturn, coreStep_of_instructionAtPc hhalt hres hirq hi]
  · rcases step_routine h hctx with ⟨hne, -⟩ | ⟨-, hkeep⟩
    · exact absurd hs hne
    · exact hkeep

end Sys2Proof.Machine
end

section
/-! PROOFS of HALT mode and the wake-up (49_sound_halt.md section 2, 60_exceptions.md R245 to R248): what a turn of each
agent can do to a halted chip, and the wake-up edge pin by pin. -/

namespace Sys2Proof.Machine

/-- The core's turn passes in HALT mode (60_exceptions.md R245). -/
theorem coreStep_of_halted {s : State} (h : s.halted = true) : coreStep s = .next s := by
  have hidle : coreIdle s = true := by simp [coreIdle, h]
  simp [coreStep, hidle]

/-- The timer stands still in HALT mode or with TON = 0 (60_exceptions.md R240, decision D16). -/
theorem timerTick_of_off {s : State} (h : s.ton = false ∨ s.halted = true) : timerTick s = s := by
  have hgo : (s.ton && !s.halted) = false := by rcases h with h | h <;> simp [h]
  rw [timerTick, hgo, if_neg Bool.false_ne_true]

/-- The sound generator stands still in HALT mode or with no sound playing (60_exceptions.md R242). -/
theorem soundNote_of_off {s : State} (h : s.sndOn = false ∨ s.halted = true) : soundNote s = s := by
  have hgo : (s.sndOn && !s.halted) = false := by rcases h with h | h <;> simp [h]
  rw [soundNote, hgo, if_neg Bool.false_ne_true]

/-- The turn of any agent on a halted chip: it stays halted and nothing moves but pins and RES, or the turn is reset, or
it is a wake-up edge (60_exceptions.md R245, R246, R248). -/
theorem turnStep_of_halted {s : State} (turn : Turn) (h : s.halted = true) :
    ∃ t, turnStep turn s = .next t ∧
      ((t.halted = true ∧ ∃ ps pp r, t = { s with ps := ps, pp := pp, resLow := r }) ∨
        (t.halted = false ∧ (turn = .resLow ∨ ∃ ps pp, turn = .pins ps pp ∧ wakeEdge s ps pp = true))) := by
  cases turn with
  | core => exact ⟨s, coreStep_of_halted h, .inl ⟨h, s.ps, s.pp, s.resLow, rfl⟩⟩
  | timerTick => exact ⟨s, congrArg Host.Outcome.next (timerTick_of_off (.inr h)), .inl ⟨h, s.ps, s.pp, s.resLow, rfl⟩⟩
  | soundNote => exact ⟨s, congrArg Host.Outcome.next (soundNote_of_off (.inr h)), .inl ⟨h, s.ps, s.pp, s.resLow, rfl⟩⟩
  | soundPads a b =>
    have heq : soundPads a b s = s := by simp [soundPads, h]
    exact ⟨s, congrArg Host.Outcome.next heq, .inl ⟨h, s.ps, s.pp, s.resLow, rfl⟩⟩
  | pins ps pp =>
    rcases setPins_cases ps pp s with ⟨-, hedge, heq⟩ | ⟨-, heq⟩
    · exact ⟨_, congrArg Host.Outcome.next heq, .inr ⟨rfl, .inr ⟨ps, pp, rfl, hedge⟩⟩⟩
    · exact ⟨_, congrArg Host.Outcome.next heq, .inl ⟨h, ps, pp, s.resLow, rfl⟩⟩
  | resLow => exact ⟨_, rfl, .inr ⟨rfl, .inl rfl⟩⟩
  | resHigh => exact ⟨_, rfl, .inl ⟨h, s.ps, s.pp, false, rfl⟩⟩

/-- Settles O53: HALT completes, and the turn of every agent on a halted chip is one of three. -/
theorem haltModeIsFrozen : Obligations.HaltModeIsFrozen := by
  refine ⟨fun _ => rfl, fun s h => ?_⟩
  cases hturns : s.turns with
  | nil =>
    refine ⟨s, (step_of_coreTurn (.inl ⟨hturns, rfl⟩)).trans (coreStep_of_halted h), fun _ => ?_, fun hrun => ?_⟩
    · exact ⟨s.ps, s.pp, s.resLow, s.turns, rfl⟩
    · exact absurd (h.symm.trans hrun) (by decide)
  | cons turn ts =>
    rw [step_of_turn hturns]
    obtain ⟨t, ht, ⟨hstill, ps, pp, r, heq⟩ | ⟨hrun, hturn⟩⟩ :=
      turnStep_of_halted (s := { s with turns := ts }) turn h
    · exact ⟨t, ht, fun _ => ⟨ps, pp, r, ts, heq⟩, fun hrun => absurd (hstill.symm.trans hrun) (by decide)⟩
    · refine ⟨t, ht, fun hstill => absurd (hstill.symm.trans hrun) (by decide), fun _ => ?_⟩
      rcases hturn with rfl | ⟨ps, pp, rfl, hedge⟩
      · exact .inl ⟨ts, rfl⟩
      · exact .inr ⟨ps, pp, ts, rfl, hedge⟩

/-- Some wake-enabled pin of a port falls (60_exceptions.md R224, R246). -/
theorem fallingEdges_ne_zero_iff (old new : InputPort) (pull wake : Nibble) :
    (fallingEdges (portPins old pull) (portPins new pull) wake != 0x0#4) = true ↔
      ∃ k, k < 4 ∧ pinFalls old new pull wake k := by
  have hbit : ∀ x : Nibble, (x != 0x0#4) = true ↔ ∃ k, k < 4 ∧ x.getLsbD k = true := by decide
  rw [hbit]
  refine exists_congr fun k => and_congr_right fun hk => ?_
  rw [fallingEdges, BitVec.getLsbD_and, BitVec.getLsbD_and, BitVec.getLsbD_not, portPins_getLsbD old pull hk,
    portPins_getLsbD new pull hk]
  simp [pinFalls, hk]
  tauto

/-- There is a wake-up edge exactly when some wake-enabled pin of PS or PP falls (60_exceptions.md R246). -/
theorem wakeEdge_iff (s : State) (ps pp : InputPort) : wakeEdge s ps pp = true ↔
    ∃ k, k < 4 ∧ (pinFalls s.ps ps s.cfg.pullPs s.cfg.wakePs k ∨ pinFalls s.pp pp s.cfg.pullPp s.cfg.wakePp k) := by
  rw [wakeEdge, Bool.or_eq_true_iff, readPs, readPp, fallingEdges_ne_zero_iff, fallingEdges_ne_zero_iff, ← exists_or]
  exact exists_congr fun k => and_or_left.symm

/-- A wake-up edge of a halted chip is the wake-up (60_exceptions.md R246). -/
theorem setPins_of_edge {s : State} {ps pp : InputPort} (hhalt : s.halted = true) (hedge : wakeEdge s ps pp = true) :
    setPins ps pp s = wakeUp { s with ps := ps, pp := pp } := by
  simp [setPins, hhalt, hedge]

/-- Without an edge the pins alone change (60_exceptions.md R224). -/
theorem setPins_of_no_edge {s : State} {ps pp : InputPort} (hedge : wakeEdge s ps pp = false) :
    setPins ps pp s = { s with ps := ps, pp := pp } := by
  simp [setPins, hedge]

/-- Settles O58: the edge is a falling pin of either port; a wake-up sets EXTL, so under EI in the main program the
entry is next, and otherwise the instruction at PC. -/
theorem wakeUpResult : Obligations.WakeUpResult := by
  refine ⟨wakeEdge_iff, fun s ps pp ts hhalt hres hturns => ⟨fun hedge => ?_, fun hedge => ?_⟩⟩
  · rw [step_of_turn hturns]
    exact congrArg Host.Outcome.next (setPins_of_no_edge (s := { s with turns := ts }) hedge)
  · have hwake := setPins_of_edge (s := { s with turns := ts }) hhalt hedge
    refine ⟨_, (step_of_turn hturns).trans (congrArg Host.Outcome.next hwake), rfl, fun hie hctx htf => ?_,
      fun hno i hi => ?_⟩
    · have hextl : (s.ie || s.cfg.extlHeldUnderDi) = true := by simp [hie]
      have hentry := coreStep_of_irqAccepted (s := wakeUp { s with turns := ts, ps := ps, pp := pp }) hres
        ((irqAccepted_iff _).2 ⟨rfl, hie, hctx, .inr hextl⟩)
      exact hentry.trans (congrArg Host.Outcome.next (acceptInterrupt_external htf))
    · refine coreStep_of_instructionAtPc rfl hres ?_ hi
      rcases hno with hie | hctx
      · simp [irqAccepted, hie]
      · simp [irqAccepted, hctx]

end Sys2Proof.Machine
end

section
/-! PROOFS of the agents that count and of the display (60_exceptions.md R240, R242, 20_memory.md R60): the timer and
the sound generator by induction on the counts that are left, and the display cells as rows of two. -/

namespace Sys2Proof.Machine

section Timer
variable {s : State}

/-- A count below FFH adds 1 (60_exceptions.md R240). -/
theorem timerTick_of_lt (hton : s.ton = true) (hhalt : s.halted = false) (htmr : s.tmr.toNat < 255) :
    timerTick s = { s with tmr := BitVec.ofNat 8 (s.tmr.toNat + 1) } := by
  have hne : s.tmr ≠ 0xFF#8 := fun h => by simp [h] at htmr
  have hsucc : s.tmr + 1#8 = BitVec.ofNat 8 (s.tmr.toNat + 1) := by
    apply BitVec.eq_of_toNat_eq
    simp [BitVec.toNat_add]
  simp [timerTick, hton, hhalt, hne, hsucc]

/-- A count at FFH overflows to 00H and sets TF (60_exceptions.md R240). -/
theorem timerTick_of_eq (hton : s.ton = true) (hhalt : s.halted = false) (htmr : s.tmr.toNat = 255) :
    timerTick s = { s with tmr := 0x00#8, tf := true } := by
  have heq : s.tmr = 0xFF#8 := BitVec.eq_of_toNat_eq htmr
  simp [timerTick, hton, hhalt, heq]

/-- Settles O48: the timer's turn is one count. -/
theorem timerCountResult : Obligations.TimerCountResult := by
  intro s ts hturns
  rw [step_of_turn hturns]
  refine ⟨fun hton hhalt htmr => ?_, fun hton hhalt htmr => ?_, fun hoff => ?_⟩
  · exact congrArg Host.Outcome.next (timerTick_of_lt (s := { s with turns := ts }) hton hhalt htmr)
  · exact congrArg Host.Outcome.next (timerTick_of_eq (s := { s with turns := ts }) hton hhalt htmr)
  · exact congrArg Host.Outcome.next (timerTick_of_off (s := { s with turns := ts }) hoff)

/-- With `k` + 1 counts to go, TF is clear before the last of them and set by it: by induction on `k`, each count but
the last leaving one fewer. -/
theorem ticks_of_counts_left (k : Nat) (hton : s.ton = true) (hhalt : s.halted = false) (htf : s.tf = false)
    (htmr : s.tmr.toNat + k = 255) :
    (∀ j, j < k + 1 → (ticks j s).tf = false) ∧ ticks (k + 1) s = { s with tmr := 0x00#8, tf := true } := by
  induction k generalizing s with
  | zero =>
    refine ⟨fun j hj => ?_, timerTick_of_eq hton hhalt htmr⟩
    obtain rfl : j = 0 := by omega
    exact htf
  | succ k ih =>
    have hcount := timerTick_of_lt hton hhalt (by omega)
    obtain ⟨hclear, hset⟩ := ih (s := { s with tmr := BitVec.ofNat 8 (s.tmr.toNat + 1) }) hton hhalt htf
      (by simp; omega)
    refine ⟨fun j hj => ?_, ?_⟩
    · cases j with
      | zero => exact htf
      | succ j =>
        rw [ticks, hcount]
        exact hclear j (by omega)
    · rw [ticks, hcount, hset]

/-- Settles O49: loaded with 256 - k, the timer has k counts to go. -/
theorem timerOverflowsAfterLoadedCounts : Obligations.TimerOverflowsAfterLoadedCounts := by
  intro s k hk hk' hton hhalt htf htmr
  obtain ⟨k, rfl⟩ : ∃ n, k = n + 1 := ⟨k - 1, by omega⟩
  refine ticks_of_counts_left k hton hhalt htf ?_
  rw [htmr, BitVec.toNat_ofNat]
  omega

end Timer

section Sound
variable {s : State}

/-- The number of notes of a sound is one more than the number of its last note (49_sound_halt.md R206). -/
theorem toNat_lastNote (ch : Nibble) : (lastNote ch).toNat + 1 = if 12 ≤ ch.toNat then 64 else 32 := by
  revert ch
  decide

/-- Before its last note a sound goes to the next (60_exceptions.md R242). -/
theorem soundNote_of_lt (hon : s.sndOn = true) (hhalt : s.halted = false)
    (hnote : s.sndNote.toNat < (lastNote s.sndCh).toNat) : soundNote s = { s with sndNote := s.sndNote + 1#6 } := by
  have hne : s.sndNote ≠ lastNote s.sndCh := fun h => by simp [h] at hnote
  simp [soundNote, hon, hhalt, hne]

/-- At its last note a ONE-mode sound ends (49_sound_halt.md R208). -/
theorem soundNote_of_last_one (hon : s.sndOn = true) (hhalt : s.halted = false)
    (hnote : s.sndNote.toNat = (lastNote s.sndCh).toNat) (hmode : s.sndMode = .one) :
    soundNote s = { s with sndOn := false, sndNote := 0#6 } := by
  simp [soundNote, hon, hhalt, BitVec.eq_of_toNat_eq hnote, hmode]

/-- At its last note a LOOP-mode sound goes to the first (49_sound_halt.md R209). -/
theorem soundNote_of_last_loop (hon : s.sndOn = true) (hhalt : s.halted = false)
    (hnote : s.sndNote.toNat = (lastNote s.sndCh).toNat) (hmode : s.sndMode = .loop) :
    soundNote s = { s with sndNote := 0#6 } := by
  simp [soundNote, hon, hhalt, BitVec.eq_of_toNat_eq hnote, hmode]

/-- With `k` + 1 notes to go, the sound plays before the last of them, which ends it in ONE mode and starts it again in
LOOP mode: by induction on `k`. -/
theorem notes_of_notes_left (k : Nat) (hon : s.sndOn = true) (hhalt : s.halted = false)
    (hnote : s.sndNote.toNat + k = (lastNote s.sndCh).toNat) :
    (∀ j, j < k + 1 → (notes j s).sndOn = true) ∧
      (s.sndMode = .one → notes (k + 1) s = { s with sndOn := false, sndNote := 0#6 }) ∧
      (s.sndMode = .loop → notes (k + 1) s = { s with sndNote := 0#6 }) := by
  induction k generalizing s with
  | zero =>
    refine ⟨fun j hj => ?_, soundNote_of_last_one hon hhalt hnote, soundNote_of_last_loop hon hhalt hnote⟩
    obtain rfl : j = 0 := by omega
    exact hon
  | succ k ih =>
    have hnext := soundNote_of_lt hon hhalt (by omega)
    have hlast := (lastNote s.sndCh).isLt
    obtain ⟨hplays, hone, hloop⟩ := ih (s := { s with sndNote := s.sndNote + 1#6 }) hon hhalt
      (by simp [BitVec.toNat_add]; omega)
    refine ⟨fun j hj => ?_, fun hmode => ?_, fun hmode => ?_⟩
    · cases j with
      | zero => exact hon
      | succ j =>
        rw [notes, hnext]
        exact hplays j (by omega)
    · rw [notes, hnext, hone hmode]
    · rw [notes, hnext, hloop hmode]

/-- Settles O60: the generator's turn is one note, and from its first note a sound has all its notes to go. -/
theorem soundEndResult : Obligations.SoundEndResult := by
  intro s n hn
  rw [← toNat_lastNote] at hn
  refine ⟨fun ts hturns => ?_, fun hon hhalt hfirst => ?_⟩
  · rw [step_of_turn hturns]
    refine ⟨fun hon hhalt => ⟨fun hnote => ?_, fun hnote hmode => ?_, fun hnote hmode => ?_⟩, fun hoff => ?_⟩
    · exact congrArg Host.Outcome.next (soundNote_of_lt (s := { s with turns := ts }) hon hhalt (by simp; omega))
    · exact congrArg Host.Outcome.next
        (soundNote_of_last_one (s := { s with turns := ts }) hon hhalt (by simp; omega) hmode)
    · exact congrArg Host.Outcome.next
        (soundNote_of_last_loop (s := { s with turns := ts }) hon hhalt (by simp; omega) hmode)
    · exact congrArg Host.Outcome.next (soundNote_of_off (s := { s with turns := ts }) hoff)
  · subst hn
    obtain ⟨hplays, hone, hloop⟩ := notes_of_notes_left (lastNote s.sndCh).toNat hon hhalt (by simp [hfirst])
    refine ⟨hplays, fun hmode => ?_, fun hmode => ?_⟩
    · rw [hone hmode, ← hfirst]
    · rw [hloop hmode, ← hfirst]

end Sound

section Display

/-- The pair of display cells, counted from B0H, that holds a segment: LCD_SEG0_AT_FE says from which end
(20_memory.md R60, decision D27). -/
def segmentPair (c : Config) (k : Fin 40) : Fin 40 := if c.lcdSeg0AtFe then k.rev else k

/-- Each pair of cells holds one segment. -/
theorem segmentPair_segmentPair (c : Config) (k : Fin 40) : segmentPair c (segmentPair c k) = k := by
  unfold segmentPair
  split
  · exact Fin.rev_rev k
  · rfl

/-- The cell of a crossing by its pair and its half of the commons (20_memory.md R60). -/
theorem toNat_lcdCell (c : Config) (k : Fin 40) (j : Fin 8) :
    (lcdCell c k j).toNat = 0xB0 + 2 * (segmentPair c k).val + j.val / 4 := by
  have hk := k.isLt
  have hj := j.isLt
  unfold lcdCell segmentPair
  split
  · rw [BitVec.toNat_ofNat, Fin.val_rev]
    omega
  · rw [BitVec.toNat_ofNat]
    omega

/-- Every bit of the display area is one crossing (20_memory.md R60). -/
theorem existsUnique_crossing (c : Config) (a : RamAddr) (b : Fin 4) (ha : 0xB0 ≤ a.toNat) :
    ∃! kj : Fin 40 × Fin 8, lcdCell c kj.1 kj.2 = a ∧ kj.2.val % 4 = b.val := by
  have hlt := a.isLt
  have hb := b.isLt
  refine ⟨(segmentPair c ⟨(a.toNat - 0xB0) / 2, by omega⟩, ⟨4 * (a.toNat % 2) + b.val, by omega⟩), ⟨?_, ?_⟩, ?_⟩
  · apply BitVec.eq_of_toNat_eq
    rw [toNat_lcdCell, segmentPair_segmentPair]
    simp only
    omega
  · simp only
    omega
  · rintro ⟨k, j⟩ ⟨hcell, hbit⟩
    have hsum := toNat_lcdCell c k j
    have hj := j.isLt
    rw [hcell] at hsum
    simp only at hbit
    refine Prod.ext ?_ (Fin.ext ?_)
    · rw [← segmentPair_segmentPair c k]
      exact congrArg (segmentPair c) (Fin.ext (by simp only; omega))
    · simp only
      omega

/-- Every display cell exists (20_memory.md R54). -/
theorem ramExists_lcdCell (c : Config) (k : Fin 40) (j : Fin 8) : ramExists (lcdCell c k j) = true := by
  rw [← Bool.not_eq_false, ramExists_eq_false_iff, toNat_lcdCell]
  omega

/-- Settles O59: a crossing is its pair of cells, the half of the commons and the bit, and each of these comes back from
the bit. -/
theorem lcdMappingIsOneToOne : Obligations.LcdMappingIsOneToOne := by
  refine fun c => ⟨fun k j => ⟨?_, fun hseg => ?_, fun hseg => ?_⟩, fun a b ha => existsUnique_crossing c a b ha,
    fun s k j hc => ?_⟩
  · rw [toNat_lcdCell]
    omega
  · have hk := k.isLt
    rw [toNat_lcdCell, segmentPair, if_pos hseg, Fin.val_rev]
    omega
  · rw [toNat_lcdCell, segmentPair, if_neg (by simp [hseg])]
  · obtain ⟨v, hv⟩ := readCell_of_exists (s := s) (ramExists_lcdCell c k j)
    refine ⟨v, hv, ?_⟩
    simp [lcdOn, hc, hv]

end Display

end Sys2Proof.Machine
end
